-- ==== Sys2Proof/Word.lean ====
section
/-! DEFINITION. The word types of the XYE protocol block (00_scope.md R11, R12): unsigned bytes, nibbles, 16-bit flag words, 32-bit millisecond counters, and exact rational temperatures. -/

namespace Sys2Proof

/-- A frame byte, buffer cell or raw protocol field (R11). -/
abbrev Byte := BitVec 8

/-- The static-pressure value, 0 to 15 (R11). -/
abbrev U4 := BitVec 4

/-- An error-flag or protection-flag word (R11). -/
abbrev U16 := BitVec 16

/-- A millisecond counter, which wraps modulo 2^32 (R11). -/
abbrev U32 := BitVec 32

/-- A temperature in degrees Celsius; `none` is an absent or NaN reading (R11, decision D9). -/
abbrev Temp := Option Rat

/-- `word16(hi, lo) = hi*256 + lo` (R12). -/
def word16 (hi lo : Byte) : U16 := hi ++ lo

end Sys2Proof
end

