-- ==== Sys2Proof/Config.lean ====
section
/-! DEFINITION. The protocol vocabulary (10_state.md section 1), the configuration record `cfg` (30_encoding.md R96-R104), the reference configuration `REFCFG` (R105), the uninterpreted Fahrenheit maps and port temperature format, and the capability descriptor (10_state.md R48). -/

namespace Sys2Proof

/-- The four commands (10_state.md section 1). -/
inductive Cmd where
  | query | queryExt | set | followMe
deriving DecidableEq, Repr

/-- The four send states (10_state.md section 1). -/
inductive SendState where
  | sendQuery | sendQueryExt | sendSet | sendFollowMe
deriving DecidableEq, Repr

/-- `cmd_of : SendState → Cmd` (10_state.md section 1). -/
def SendState.cmdOf : SendState → Cmd
  | .sendQuery => .query
  | .sendQueryExt => .queryExt
  | .sendSet => .set
  | .sendFollowMe => .followMe

/-- The control state: awaiting a response, or one of the send states (10_state.md section 1). -/
inductive CtrlState where
  | awaiting
  | send (target : SendState)
deriving DecidableEq, Repr

/-- Operation modes. -/
inductive Mode where
  | off | auto | fan | dry | heat | cool
deriving DecidableEq, Repr

/-- Every mode, in the order of 10_state.md section 1. -/
def Mode.all : List Mode := [.off, .auto, .fan, .dry, .heat, .cool]

/-- Fan modes: `F_OFF`, `F_AUTO`, `F_LOW`, `F_MEDIUM`, `F_HIGH`. -/
inductive Fan where
  | off | auto | low | medium | high
deriving DecidableEq, Repr

/-- Every fan mode, in the order of 10_state.md section 1. -/
def Fan.all : List Fan := [.off, .auto, .low, .medium, .high]

/-- Presets: `NONE`, `BOOST`, `SLEEP`. -/
inductive Preset where
  | none | boost | sleep
deriving DecidableEq, Repr

/-- Device actions: `IDLE`, `HEATING`, `COOLING`, `A_FAN`. -/
inductive Action where
  | idle | heating | cooling | fan
deriving DecidableEq, Repr

/-- The kind of the next follow-me frame: `FM_TEMP` or `FM_STATIC`. -/
inductive FmKind where
  | temp | staticPressure
deriving DecidableEq, Repr

/-- `cfg.WORD_ORDER` (20_memory.md R63). -/
inductive WordOrder where
  | le | be
deriving DecidableEq, Repr

/-- `cfg.TEMP_UNIT` (30_encoding.md R104). -/
inductive TempUnit where
  | celsius | fahrenheit
deriving DecidableEq, Repr

/-- `cfg.CYCLE` (R104; 90_conflicts.md C1). -/
inductive Cycle where
  | poll | ring
deriving DecidableEq, Repr

/-- `cfg.RECOVERY` (R104, decision D13). -/
inductive Recovery where
  | fallbackQuery | advance
deriving DecidableEq, Repr

/-- `cfg.CURRENT_SRC` (R104, decision D32). -/
inductive CurrentSrc where
  | device | remote
deriving DecidableEq, Repr

/-- One row of a decode table: a raw byte whose bits under `mask` equal `pattern` decodes to `value`.
The first row that fits decides (DESIGN CHOICE, entry 3: a function on bytes held as plain data). -/
structure CodeRow (α : Type) where
  mask : Byte
  pattern : Byte
  value : α
deriving DecidableEq, Repr

/-- The function `u8 → Option α` that a decode table stands for (R101). -/
def lookupCode {α : Type} : List (CodeRow α) → Byte → Option α
  | [], _ => none
  | row :: rows, raw => if raw &&& row.mask = row.pattern then some row.value else lookupCode rows raw

/-- `cfg.MODE_CODE : Mode → u8` as plain data (R101). -/
structure ModeCodes where
  off : Byte
  auto : Byte
  fan : Byte
  dry : Byte
  heat : Byte
  cool : Byte
deriving DecidableEq, Repr

/-- The code byte of a mode. -/
def ModeCodes.code (c : ModeCodes) : Mode → Byte
  | .off => c.off
  | .auto => c.auto
  | .fan => c.fan
  | .dry => c.dry
  | .heat => c.heat
  | .cool => c.cool

/-- `cfg.FAN_CODE : Fan → u8` as plain data (R101). -/
structure FanCodes where
  off : Byte
  auto : Byte
  low : Byte
  medium : Byte
  high : Byte
deriving DecidableEq, Repr

/-- The code byte of a fan mode. -/
def FanCodes.code (c : FanCodes) : Fan → Byte
  | .off => c.off
  | .auto => c.auto
  | .low => c.low
  | .medium => c.medium
  | .high => c.high

/-- Offsets of the set frame's payload fields, frame indices (R89, R99). -/
structure SetOffsets where
  mode : Nat
  fan : Nat
  temp : Nat
  flags : Nat
  tstart : Nat
  tstop : Nat
deriving DecidableEq, Repr

/-- Offsets of the follow-me frame's payload fields (R90, R99). -/
structure FmOffsets where
  sub : Nat
  temp : Nat
  sp : Nat
deriving DecidableEq, Repr

/-- Offsets of the query response's payload fields (R91, R100). -/
structure RxqOffsets where
  mode : Nat
  fan : Nat
  target : Nat
  t1 : Nat
  t2a : Nat
  t2b : Nat
  t3 : Nat
  current : Nat
  tstart : Nat
  tstop : Nat
  modeFlags : Nat
  err : Nat
  prot : Nat
  commErr : Nat
deriving DecidableEq, Repr

/-- Offsets of the query-extended response's payload fields (R92, R100). -/
structure RxeOffsets where
  outdoor : Nat
  sp : Nat
  target : Nat
deriving DecidableEq, Repr

/-- The configuration record `cfg` (R96-R104). Every `OPEN` parameter of the spec is a field, so a claim that
holds for every state holds for every value of it. -/
structure Config where
  /-- `TX_ID`, the identifier bytes 2-5 of every transmit frame (R97). -/
  txId : Vector Byte 4
  /-- `CMD_QUERY_EXT` (R98). -/
  cmdQueryExt : Byte
  /-- `CMD_SET` (R98). -/
  cmdSet : Byte
  /-- `CMD_FOLLOW_ME` (R98). -/
  cmdFollowMe : Byte
  /-- `SET_MODE` ... `SET_TSTOP` (R99). -/
  setOff : SetOffsets
  /-- `FM_SUB`, `FM_TEMP`, `FM_SP` (R99). -/
  fmOff : FmOffsets
  /-- `RXQ_MODE` ... `RXQ_COMMERR` (R100). -/
  rxq : RxqOffsets
  /-- `RXE_OUTDOOR`, `RXE_SP`, `RXE_TARGET` (R100). -/
  rxe : RxeOffsets
  /-- `WORD_ORDER` (R100, 20_memory.md R63). -/
  wordOrder : WordOrder
  /-- `MODE_CODE` (R101). -/
  modeCode : ModeCodes
  /-- `MODE_DECODE` (R101). -/
  modeDecode : List (CodeRow Mode)
  /-- `FAN_CODE` (R101). -/
  fanCode : FanCodes
  /-- `FAN_DECODE` (R101). -/
  fanDecode : List (CodeRow Fan)
  /-- `SWING_MASK` (R102). -/
  swingMask : Byte
  /-- `AUX_HEAT_MASK` (R102). -/
  auxHeatMask : Byte
  /-- `ECO_MASK` (R102). -/
  ecoMask : Byte
  /-- `AUTO_AUX`, the distinguished auxiliary bit of the raw mode byte (R102). -/
  autoAux : Byte
  /-- `HEAT_FLAG.offset` (R102). -/
  heatFlagOffset : Nat
  /-- `HEAT_FLAG.mask` (R102). -/
  heatFlagMask : Byte
  /-- `AUTO_COOL` (R102). -/
  autoCool : Byte
  /-- `AUTO_HEAT` (R102). -/
  autoHeat : Byte
  /-- `AUTO_FAN` (R102). -/
  autoFan : Byte
  /-- `TICK_MS` (R103). -/
  tickMs : U32
  /-- `WINDOW_MS` (R103). -/
  windowMs : U32
  /-- `FM_PERIOD_MS` (R103). -/
  fmPeriodMs : U32
  /-- `FM_CHANGE_MS` (R103). -/
  fmChangeMs : U32
  /-- `TEMP_UNIT` (R104). -/
  tempUnit : TempUnit
  /-- Which Fahrenheit maps are supplied, `none` where none are (R104, `WF_FMAP`; entry 4). -/
  fMap : Option Nat
  /-- `EXT_TARGET_REFRESH` (R104). -/
  extTargetRefresh : Bool
  /-- `CYCLE` (R104). -/
  cycle : Cycle
  /-- `RECOVERY` (R104). -/
  recovery : Recovery
  /-- `CURRENT_SRC` (R104). -/
  currentSrc : CurrentSrc
  /-- `TIMER_BUCKETS`: the minutes each timer bit stands for (R104). -/
  timerBuckets : Vector (Option Nat) 8
  /-- `TEMP_FMT`: which port format the realisation has (00_scope.md R11, decision D9, U13; entry 17). -/
  tempFmt : Nat
deriving DecidableEq, Repr

/-- `cfg.F_ENCODE : Rat → Option u8` of the supplied pair of maps numbered by its first argument (R104).
`OPEN`: uninterpreted, no value of it can be proved (DESIGN CHOICE, entry 4, safe). -/
opaque Config.fEncode : Nat → Rat → Option Byte

/-- `cfg.F_DECODE : u8 → Rat` of the supplied pair of maps numbered by its first argument (R104).
`OPEN`: uninterpreted (DESIGN CHOICE, entry 4, safe). -/
opaque Config.fDecode : Nat → Byte → Rat

/-- `TEMP_FMT`: the temperature that a word on a host or sensor port stands for, in the format numbered by the first
argument; `none` is a missing or NaN value (00_scope.md R11, 41_codec.md R127, D9, U13).
`OPEN`: uninterpreted (DESIGN CHOICE, entry 17, safe). The width of the word is open too, so the word is a number. -/
opaque Config.tempOfPort : Nat → Nat → Temp

/-- `PREAMBLE` (R96). -/
def preamble : Byte := 0xAA

/-- `MARKER`, the trailing marker (R96). -/
def marker : Byte := 0x55

/-- `CMD_QUERY`, fixed by the source (R10, R98). -/
def cmdQuery : Byte := 0xC0

/-- `FM_INIT` (R86). -/
def fmInitCode : Byte := 0x06

/-- `FM_UPDATE` (R86). -/
def fmUpdateCode : Byte := 0x02

/-- `FM_STATIC_PRESSURE` (R86). -/
def fmStaticCode : Byte := 0x04

/-- `SP_MAX`, the greatest static-pressure value (R10). -/
def spMax : Nat := 15

/-- `REFCFG`, the reference configuration of the spec's test vectors (R105); its port format is the model's (entry 17). -/
def Config.ref : Config where
  txId := #v[0x00, 0x00, 0x00, 0x00]
  cmdQueryExt := 0xC4
  cmdSet := 0xC3
  cmdFollowMe := 0xC6
  setOff := ⟨6, 7, 8, 9, 10, 11⟩
  fmOff := ⟨10, 8, 11⟩
  rxq := ⟨8, 9, 10, 11, 12, 13, 14, 15, 17, 18, 20, 22, 24, 26⟩
  rxe := ⟨11, 12, 10⟩
  wordOrder := .le
  modeCode := ⟨0x00, 0x80, 0x81, 0x82, 0x84, 0x88⟩
  modeDecode :=
    [⟨0x80, 0x00, .off⟩, ⟨0x10, 0x10, .auto⟩, ⟨0xFF, 0x80, .auto⟩, ⟨0xFF, 0x81, .fan⟩,
     ⟨0xFF, 0x82, .dry⟩, ⟨0xFF, 0x84, .heat⟩, ⟨0xFF, 0x88, .cool⟩]
  fanCode := ⟨0x00, 0x80, 0x04, 0x02, 0x01⟩
  fanDecode :=
    [⟨0xFF, 0x00, .off⟩, ⟨0xFF, 0x80, .auto⟩, ⟨0xFF, 0x01, .high⟩, ⟨0xFF, 0x02, .medium⟩, ⟨0xFF, 0x04, .low⟩]
  swingMask := 0x04
  auxHeatMask := 0x02
  ecoMask := 0x01
  autoAux := 0x10
  heatFlagOffset := 8
  heatFlagMask := 0x04
  autoCool := 0x08
  autoHeat := 0x04
  autoFan := 0x01
  tickMs := 1000
  windowMs := 100
  fmPeriodMs := 30000
  fmChangeMs := 5000
  tempUnit := .celsius
  fMap := none
  extTargetRefresh := false
  cycle := .poll
  recovery := .fallbackQuery
  currentSrc := .device
  timerBuckets := #v[some 15, some 30, some 60, some 120, some 240, some 480, some 960, none]
  tempFmt := 0

/-- The capability descriptor that the port `P_CAP` shows (10_state.md R48). -/
structure Capability where
  modes : List Mode
  fans : List Fan
  presets : List Preset
  visualMin : Rat
  visualMax : Rat
  visualStep : Rat
deriving DecidableEq, Repr

/-- The constant on `P_CAP`: all modes, fan modes and presets, a visual range of 17 to 30 degrees with step 1 (R48).
The range is display-only: no rule reads it (decision D45). -/
def capability : Capability where
  modes := Mode.all
  fans := Fan.all
  presets := [.none, .boost, .sleep]
  visualMin := 17
  visualMax := 30
  visualStep := 1

end Sys2Proof
end

