-- ==== Sys2Proof/Machine/Flags.lean ====
section
/-! DEFINITION. Flag bits: swing and preset on the mode-flags byte (42_mapper.md R155-R157), the heat flag and the operation-mode submasks that decide the action (R158, R159). The block has no arithmetic flags (10_state.md R33). -/

namespace Sys2Proof.Machine

/-- Some bit of `mask` is set in `b`. -/
def anyBit (b mask : Byte) : Bool := b &&& mask != 0

/-- `decode_swing` (R155). -/
def decodeSwing (cfg : Config) (fl : Byte) : Bool := anyBit fl cfg.swingMask

/-- `decode_preset` (R156): auxiliary heat wins over eco. -/
def decodePreset (cfg : Config) (fl : Byte) : Preset :=
  if anyBit fl cfg.auxHeatMask then .boost
  else if anyBit fl cfg.ecoMask then .sleep
  else .none

/-- `encode_flags` (R157). -/
def encodeFlags (cfg : Config) (sw : Bool) (p : Preset) : Byte :=
  (if sw then cfg.swingMask else 0) |||
  (match p with
   | .none => 0
   | .boost => cfg.auxHeatMask
   | .sleep => cfg.ecoMask)

/-- The byte of a receive frame at frame offset `o` in 6..29, taken from its payload: `rx[o] = q[o - 6]`
(44_interpreter.md, before R200). -/
def payloadByte (q : List Byte) (o : Nat) : Byte := q.getD (o - 6) 0

/-- `heat_flag` (R158), on the payload of a valid query response. -/
def heatFlag (cfg : Config) (q : List Byte) : Bool := anyBit (payloadByte q cfg.heatFlagOffset) cfg.heatFlagMask

/-- The action that the operation-mode submasks select while in AUTO: cooling, then heating, then fan (R159). -/
def autoAction (cfg : Config) (raw : Byte) : Action :=
  if anyBit raw cfg.autoCool then .cooling
  else if anyBit raw cfg.autoHeat then .heating
  else if anyBit raw cfg.autoFan then .fan
  else .idle

/-- `compute_action(pm, f)` (R159): `pm` is the snapshot mode before this response. -/
def computeAction (cfg : Config) (pm : Option Mode) (q : List Byte) : Option Action :=
  match pm with
  | some .heat => some (if heatFlag cfg q then .heating else .idle)
  | some .auto => some (autoAction cfg (payloadByte q cfg.rxq.mode))
  | some .cool => some .cooling
  | some .fan => some .fan
  | some .dry => some .idle
  | some .off => some .idle
  | none => none

end Sys2Proof.Machine
end

