-- ==== Sys2Proof/Machine/Operands.lean ====
section
/-! DEFINITION. Operand forms: the value transforms of 41_codec.md R127-R136 (temperatures, timer buckets, nibbles, 16-bit words) and the mapper of 42_mapper.md R150-R154, R160-R163 (modes, fan modes, target temperature, static pressure). -/

namespace Sys2Proof.Machine

/-- `to_celsius(b) = (Int(b) - 40) / 2` (41_codec.md R128). -/
def toCelsius (b : Byte) : Rat := (((b.toNat : Int) - 40 : Int) : Rat) / 2

/-- `round_half_away(x) = sign(x) * floor(|x| + 1/2)` (R129). -/
def roundHalfAway (x : Rat) : Int := if x < 0 then -⌊-x + 1 / 2⌋ else ⌊x + 1 / 2⌋

/-- `from_celsius` (R129): `none` where the rounded value is no byte. -/
def fromCelsius (c : Rat) : Option Byte :=
  let r := roundHalfAway (2 * c + 40)
  if 0 ≤ r ∧ r ≤ 255 then some (BitVec.ofNat 8 r.toNat) else none

/-- The minutes of the set bits of `b` from bit `k` on, for the buckets of those bits (R132). -/
def timerSum (b : Byte) : Nat → List (Option Nat) → Nat
  | _, [] => 0
  | k, e :: es => (if b.getLsbD k then e.getD 0 else 0) + timerSum b (k + 1) es

/-- `timer_decode` (R132). -/
def timerDecode (cfg : Config) (b : Byte) : Nat := timerSum b 0 cfg.timerBuckets.toList

/-- Puts a (minutes, bit) pair before the first pair that has no more minutes (R133: minutes descending, ties by
lower bit first, when pairs are put in from the highest bit down). -/
def insertBucket (x : Nat × Nat) : List (Nat × Nat) → List (Nat × Nat)
  | [] => [x]
  | y :: ys => if y.1 ≤ x.1 then x :: y :: ys else y :: insertBucket x ys

/-- The bits that have a bucket, as (minutes, bit) pairs in the order the encoder tries them (R133). -/
def bucketOrder : Nat → List (Option Nat) → List (Nat × Nat)
  | _, [] => []
  | k, none :: es => bucketOrder (k + 1) es
  | k, some m :: es => insertBucket (m, k) (bucketOrder (k + 1) es)

/-- The greedy choice of bits for a remainder (R133). -/
def greedyBits : List (Nat × Nat) → Nat → Byte
  | [], _ => 0
  | (m, k) :: rest, rem =>
    if m ≤ rem then BitVec.twoPow 8 k ||| greedyBits rest (rem - m) else greedyBits rest rem

/-- `timer_encode` (R133). The block sends no timer; the function is the spec's own inverse of `timer_decode`. -/
def timerEncode (cfg : Config) (n : Nat) : Byte := greedyBits (bucketOrder 0 cfg.timerBuckets.toList) n

/-- `lo4(b)` as a 4-bit value (R135), which is `sp_from_raw` (42_mapper.md R163). -/
def spFromRaw (b : Byte) : U4 := b.setWidth 4

/-- `zext_8` of a 4-bit value: bits 7..4 are 0 (R135). -/
def spToRaw (v : U4) : Byte := v.setWidth 8

/-- `word_at(rx, o)` of a receive frame with this payload (20_memory.md R63, 41_codec.md R136). -/
def wordAt (cfg : Config) (q : List Byte) (o : Nat) : U16 :=
  match cfg.wordOrder with
  | .le => word16 (payloadByte q (o + 1)) (payloadByte q o)
  | .be => word16 (payloadByte q o) (payloadByte q (o + 1))

/-- `decode_mode` (42_mapper.md R150). -/
def decodeMode (cfg : Config) (raw : Byte) : Option Mode := lookupCode cfg.modeDecode raw

/-- `corrected_mode` (R151): OFF with the auxiliary bit set is AUTO. -/
def correctedMode (cfg : Config) (raw : Byte) : Option Mode :=
  if decodeMode cfg raw = some .off ∧ anyBit raw cfg.autoAux then some .auto else decodeMode cfg raw

/-- `encode_mode` (R152). -/
def encodeMode (cfg : Config) (m : Mode) : Byte := cfg.modeCode.code m

/-- `decode_fan` (R153). -/
def decodeFan (cfg : Config) (raw : Byte) : Option Fan := lookupCode cfg.fanDecode raw

/-- `encode_fan` (R154). -/
def encodeFan (cfg : Config) (f : Fan) : Byte := cfg.fanCode.code f

/-- `target_from_raw` (R161). -/
def targetFromRaw (cfg : Config) (b : Byte) : Rat :=
  match cfg.tempUnit with
  | .celsius => toCelsius b
  | .fahrenheit => Config.fDecode (cfg.fMap.getD 0) b

/-- `target_to_raw` (R162). -/
def targetToRaw (cfg : Config) (t : Temp) : Option Byte :=
  match t with
  | none => none
  | some c =>
    match cfg.tempUnit with
    | .celsius => fromCelsius c
    | .fahrenheit => Config.fEncode (cfg.fMap.getD 0) c

end Sys2Proof.Machine
end

