-- ==== Sys2Proof/Syntax.lean ====
section
/-! DEFINITION. The instructions of the block: one constructor per row of spec/opcode_table.json (six transmit frames, five receive frames, six input events), the host's control request, the temperatures as a realisation's ports show them (decision D9), and the port transactions by which events arrive (10_state.md R38). -/

namespace Sys2Proof

/-- A host control request: five optional fields (10_state.md R45). -/
structure ControlReq where
  mode : Option Mode
  target : Temp
  fan : Option Fan
  swing : Option Bool
  preset : Option Preset
deriving DecidableEq, Repr

/-- The request with no field present (45_sequencer.md R245). -/
def ControlReq.empty : ControlReq := ⟨none, none, none, none, none⟩

/-- The rows of the opcode table. A transmit frame carries its payload fields; a receive frame carries its header
bytes 2-5 and its payload bytes 6-29; an event carries its transaction's arguments. -/
inductive Instr where
  /-- `QUERY` (43_frames.md R181). -/
  | query
  /-- `QUERY_EXT` (R182). -/
  | queryExt
  /-- `SET` (R183): mode, fan, raw target byte, swing, preset. -/
  | set (m : Mode) (f : Fan) (temp : Byte) (sw : Bool) (p : Preset)
  /-- `FM_INIT` (R185): the raw temperature byte. -/
  | fmInit (temp : Byte)
  /-- `FM_UPDATE` (R185): the raw temperature byte. -/
  | fmUpdate (temp : Byte)
  /-- `FM_STATIC` (R188): the static-pressure value. -/
  | fmStatic (sp : U4)
  /-- `R_QUERY` (44_interpreter.md R201): header, payload. -/
  | rQuery (hdr : List Byte) (q : List Byte)
  /-- `R_QUERY_EXT` (R212): header, payload. -/
  | rQueryExt (hdr : List Byte) (q : List Byte)
  /-- `R_SET` (R214): header, payload. -/
  | rSet (hdr : List Byte) (q : List Byte)
  /-- `R_FOLLOW_ME` (R214): header, payload. -/
  | rFollowMe (hdr : List Byte) (q : List Byte)
  /-- `R_UNKNOWN` (R215): echoed code, header, payload. -/
  | rUnknown (code : Byte) (hdr : List Byte) (q : List Byte)
  /-- `RESET` (70_reset_and_hazards.md R310). -/
  | reset
  /-- `MS` (45_sequencer.md R231). -/
  | ms
  /-- `CONTROL(req)` (R245). -/
  | control (req : ControlReq)
  /-- `STATIC_PRESSURE(v)` (R248). -/
  | staticPressure (v : Byte)
  /-- `REMOTE_TEMP(t)` (R249). -/
  | remoteTemp (t : Temp)
  /-- `RX <bytes>`: the transport agent appends received bytes (R230, 30_encoding.md R106). -/
  | rx (bytes : List Byte)
deriving DecidableEq, Repr

/-- The name of a row of the opcode table (30_encoding.md R106). -/
def Instr.mnemonic : Instr → String
  | .query => "QUERY"
  | .queryExt => "QUERY_EXT"
  | .set _ _ _ _ _ => "SET"
  | .fmInit _ => "FM_INIT"
  | .fmUpdate _ => "FM_UPDATE"
  | .fmStatic _ => "FM_STATIC"
  | .rQuery _ _ => "R_QUERY"
  | .rQueryExt _ _ => "R_QUERY_EXT"
  | .rSet _ _ => "R_SET"
  | .rFollowMe _ _ => "R_FOLLOW_ME"
  | .rUnknown _ _ _ => "R_UNKNOWN"
  | .reset => "RESET"
  | .ms => "MS"
  | .control _ => "CONTROL"
  | .staticPressure _ => "STATIC_PRESSURE"
  | .remoteTemp _ => "REMOTE_TEMP"
  | .rx _ => "RX"

/-- The ports of the block (10_state.md R38). -/
inductive Port where
  | ms | tx | rx | snap | tel | host | sensor | log | cap | reset
deriving DecidableEq, Repr

/-- A temperature as it stands on a host or sensor port: an exact rational or nothing, as 00_scope.md R11 gives it, or
a word in the realisation's own format `TEMP_FMT` (decision D9, U13). -/
inductive PortTemp where
  | exact (t : Temp)
  | formatted (w : Nat)
deriving DecidableEq, Repr

/-- A host control request as it stands on its port (10_state.md R45, D9). -/
structure PortControlReq where
  mode : Option Mode
  target : PortTemp
  fan : Option Fan
  swing : Option Bool
  preset : Option Preset
deriving DecidableEq, Repr

/-- The named input transactions and their arguments (R38, R39), and the transport agent's append (R42). -/
inductive Call where
  | ms
  | control (req : PortControlReq)
  | staticPressure (v : Byte)
  | remoteTemp (t : PortTemp)
  | reset
  | rxAppend (bytes : List Byte)
deriving DecidableEq, Repr

/-- A transaction name with its arguments, offered on a port (R38). -/
structure Transaction where
  port : Port
  call : Call
deriving DecidableEq, Repr

/-- What the decoder is given: the bytes of a transmit frame, the bytes of a receive frame, or a transaction
(the direction gives the length, 30_encoding.md R84; R107). -/
inductive Packet where
  | txFrame (bytes : List Byte)
  | rxFrame (bytes : List Byte)
  | transaction (t : Transaction)
deriving DecidableEq, Repr

end Sys2Proof
end

