-- ==== Sys2Proof/WellFormed.lean ====
section
/-! DEFINITION. The named checks of 30_encoding.md R95 on a configuration, and the well-formedness of an instruction under a configuration. -/

namespace Sys2Proof

/-- An offset of the transmit payload, 6 to 13 (R99). -/
def inTxPayload (o : Nat) : Bool := 6 ≤ o && o ≤ 13

/-- An offset of the receive payload, 6 to 29 (R100). -/
def inRxPayload (o : Nat) : Bool := 6 ≤ o && o ≤ 29

/-- No value stands twice in the list. -/
def allDistinct {α : Type} [DecidableEq α] : List α → Bool
  | [] => true
  | x :: xs => !xs.contains x && allDistinct xs

/-- `WF_CODES`: the four command codes are pairwise distinct. -/
def Config.wfCodes (c : Config) : Bool := allDistinct [cmdQuery, c.cmdQueryExt, c.cmdSet, c.cmdFollowMe]

/-- The offsets of the set frame's fields. -/
def SetOffsets.list (o : SetOffsets) : List Nat := [o.mode, o.fan, o.temp, o.flags, o.tstart, o.tstop]

/-- `WF_SET_OFFS`. -/
def Config.wfSetOffs (c : Config) : Bool := allDistinct c.setOff.list && c.setOff.list.all inTxPayload

/-- The offsets of the follow-me frame's fields. -/
def FmOffsets.list (o : FmOffsets) : List Nat := [o.sub, o.temp, o.sp]

/-- `WF_FM_OFFS`. -/
def Config.wfFmOffs (c : Config) : Bool := allDistinct c.fmOff.list && c.fmOff.list.all inTxPayload

/-- Every byte of every field of the query response; a 16-bit field takes two (R91). -/
def RxqOffsets.list (o : RxqOffsets) : List Nat :=
  [o.mode, o.fan, o.target, o.t1, o.t2a, o.t2b, o.t3, o.current, o.tstart, o.tstop, o.modeFlags,
   o.err, o.err + 1, o.prot, o.prot + 1, o.commErr]

/-- `WF_RXQ_OFFS`. -/
def Config.wfRxqOffs (c : Config) : Bool := allDistinct c.rxq.list && c.rxq.list.all inRxPayload

/-- The offsets of the query-extended response's fields. -/
def RxeOffsets.list (o : RxeOffsets) : List Nat := [o.outdoor, o.sp, o.target]

/-- `WF_RXE_OFFS`. -/
def Config.wfRxeOffs (c : Config) : Bool := allDistinct c.rxe.list && c.rxe.list.all inRxPayload

/-- `WF_MODE_TABLE`: `MODE_DECODE(MODE_CODE(m)) = some m`. -/
def Config.wfModeTable (c : Config) : Bool :=
  Mode.all.all fun m => lookupCode c.modeDecode (c.modeCode.code m) == some m

/-- `WF_FAN_TABLE`: `FAN_DECODE(FAN_CODE(f)) = some f`. -/
def Config.wfFanTable (c : Config) : Bool :=
  Fan.all.all fun f => lookupCode c.fanDecode (c.fanCode.code f) == some f

/-- `WF_FLAGS`: the three masks are nonzero and pairwise disjoint. -/
def Config.wfFlags (c : Config) : Bool :=
  c.swingMask != 0 && c.auxHeatMask != 0 && c.ecoMask != 0 &&
  c.swingMask &&& c.auxHeatMask == 0 && c.swingMask &&& c.ecoMask == 0 && c.auxHeatMask &&& c.ecoMask == 0

/-- `WF_TIMER`: the bucket values are positive and include 15 and 120. -/
def Config.wfTimer (c : Config) : Bool :=
  c.timerBuckets.toList.all (fun e => e != some 0) &&
  c.timerBuckets.toList.contains (some 15) && c.timerBuckets.toList.contains (some 120)

/-- `WF_TIMING`: `0 < WINDOW_MS < TICK_MS`, `FM_CHANGE_MS > 0`, `FM_PERIOD_MS > 0`. -/
def Config.wfTiming (c : Config) : Bool :=
  decide (0 < c.windowMs) && decide (c.windowMs < c.tickMs) && decide (0 < c.fmChangeMs) && decide (0 < c.fmPeriodMs)

/-- `WF_FMAP`: under `FAHRENHEIT` the maps are supplied. -/
def Config.wfFmap (c : Config) : Bool := c.tempUnit == .celsius || c.fMap.isSome

/-- `HEAT_FLAG` has an offset in 6..29, the type R102 gives it (DEDUCED, entry 12: not among the named checks of R95). -/
def Config.wfHeatFlag (c : Config) : Bool := inRxPayload c.heatFlagOffset

/-- The configuration is admitted: every named check of R95 holds, and `HEAT_FLAG` has its type. -/
def Config.wf (c : Config) : Bool :=
  c.wfCodes && c.wfSetOffs && c.wfFmOffs && c.wfRxqOffs && c.wfRxeOffs && c.wfModeTable && c.wfFanTable &&
  c.wfFlags && c.wfTimer && c.wfTiming && c.wfFmap && c.wfHeatFlag

/-- A receive frame has 4 header bytes and 24 payload bytes (R82). -/
def rxShape (hdr q : List Byte) : Bool := hdr.length == 4 && q.length == 24

/-- The instruction is one the encoding of R80-R94 has under the configuration: a receive frame has its lengths, and
the code of an unknown response names no command. Transmit frames and events have no further condition: their
operand types are exact. -/
def Instr.wf (c : Config) : Instr → Bool
  | .query => true
  | .queryExt => true
  | .set _ _ _ _ _ => true
  | .fmInit _ => true
  | .fmUpdate _ => true
  | .fmStatic _ => true
  | .rQuery hdr q => rxShape hdr q
  | .rQueryExt hdr q => rxShape hdr q
  | .rSet hdr q => rxShape hdr q
  | .rFollowMe hdr q => rxShape hdr q
  | .rUnknown code hdr q =>
    rxShape hdr q && !([cmdQuery, c.cmdQueryExt, c.cmdSet, c.cmdFollowMe].contains code)
  | .reset => true
  | .ms => true
  | .control _ => true
  | .staticPressure _ => true
  | .remoteTemp _ => true
  | .rx _ => true

end Sys2Proof
end

