-- ==== Sys2Proof/Decode.lean ====
section
/-! DEFINITION. The frame codec: checksum (41_codec.md R120, R121), transmit and receive frame layouts (30_encoding.md R80-R93), the decoder of frames and transactions (R125, R107), total on any bytes and rejecting by name, and after it the encoder (R123, R124). -/

namespace Sys2Proof

open Sys2Proof.Machine

/-! ## Checksum -/

/-- The sum of every byte but the one `skip` places on, as an exact number (R120). -/
def sumSkip : List Byte → Nat → Nat
  | [], _ => 0
  | _ :: bs, 0 => (bs.map BitVec.toNat).sum
  | b :: bs, k + 1 => b.toNat + sumSkip bs k

/-- `sum8(f, n, skip)`, with `n` the length of `f` (R120). -/
def sum8 (f : List Byte) (skip : Nat) : Byte := BitVec.ofNat 8 (sumSkip f skip)

/-- `checksum(f, n, skip) = 0xFF - sum8(f, n, skip)` (R121). -/
def checksum (f : List Byte) (skip : Nat) : Byte := 0xFF - sum8 f skip

/-- The frame with its checksum put at index `skip`, the last step of building it (R123, R124). -/
def withChecksum (f : List Byte) (skip : Nat) : List Byte := f.set skip (checksum f skip)

/-! ## Codes and payloads -/

/-- `code_of : Cmd → u8` (30_encoding.md R85). -/
def codeOf (cfg : Config) : Cmd → Byte
  | .query => cmdQuery
  | .queryExt => cfg.cmdQueryExt
  | .set => cfg.cmdSet
  | .followMe => cfg.cmdFollowMe

/-- `cmd_of_code : u8 → Option Cmd`, the inverse of `code_of` (R85). -/
def cmdOfCode (cfg : Config) (b : Byte) : Option Cmd :=
  if b = cmdQuery then some .query
  else if b = cfg.cmdQueryExt then some .queryExt
  else if b = cfg.cmdSet then some .set
  else if b = cfg.cmdFollowMe then some .followMe
  else none

/-- Eight zero payload bytes (43_frames.md R180). -/
def zero8 : List Byte := List.replicate 8 0

/-- `put(p, o, v)` sets the payload byte at frame offset `o` (R180). -/
def put (p : List Byte) (o : Nat) (v : Byte) : List Byte := p.set (o - 6) v

/-- The payload of a set frame (R89, R183). -/
def setPayload (cfg : Config) (m : Mode) (f : Fan) (temp : Byte) (sw : Bool) (p : Preset) : List Byte :=
  let a := put zero8 cfg.setOff.mode (encodeMode cfg m)
  let b := put a cfg.setOff.fan (encodeFan cfg f)
  let c := put b cfg.setOff.temp temp
  let d := put c cfg.setOff.flags (encodeFlags cfg sw p)
  let e := put d cfg.setOff.tstart 0x00
  put e cfg.setOff.tstop 0x00

/-- The payload of a follow-me frame: subcommand, temperature byte, static-pressure byte (R90, R185, R188). -/
def fmPayload (cfg : Config) (sub temp sp : Byte) : List Byte :=
  put (put (put zero8 cfg.fmOff.sub sub) cfg.fmOff.temp temp) cfg.fmOff.sp sp

/-- The bytes of the transmit frame with this command and payload: `encode_tx` (41_codec.md R123, 30_encoding.md R80). -/
def encodeTx (cfg : Config) (c : Cmd) (p : List Byte) : List Byte :=
  withChecksum ([preamble, codeOf cfg c] ++ cfg.txId.toList ++ p ++ [0x00, marker]) 14

/-- `encode_rx(code, h, q)` (41_codec.md R124, 30_encoding.md R82). -/
def encodeRx (code : Byte) (hdr q : List Byte) : List Byte :=
  withChecksum ([preamble, code] ++ hdr ++ q ++ [0x00, marker]) 30

/-! ## Decoder -/

/-- Why bytes or a transaction are no instruction. -/
inductive DecodeError where
  /-- The frame has not the length of its direction (30_encoding.md R84). -/
  | badLength (n : Nat)
  /-- Byte 0 is not `0xAA` (R94). -/
  | badPreamble (b : Byte)
  /-- The last byte is not `0x55` (R94). -/
  | badMarker (b : Byte)
  /-- The checksum byte differs from the computed one (R81, R94). -/
  | badChecksum (computed received : Byte)
  /-- A transmit frame's bytes 2-5 are not `TX_ID` (R97). -/
  | badIdentifier
  /-- A transmit frame's byte 1 names no command (R94: never transmitted). -/
  | badCommand (code : Byte)
  /-- A follow-me frame's subcommand is none of the three (R94: never transmitted). -/
  | badSubcommand (sub : Byte)
  /-- A transmit frame's payload is not one its command's layout gives (R87-R90, R94). -/
  | badPayload (p : List Byte)
  /-- The transaction is not offered on its port (10_state.md R38, R39). -/
  | badPort (port : Port)
deriving DecidableEq, Repr

/-- The candidate when its payload, by the layout of R87-R90, is the payload received. -/
def acceptPayload (candidate : Instr) (expected p : List Byte) : Except DecodeError Instr :=
  if expected = p then .ok candidate else .error (.badPayload p)

/-- The set frame with this payload (R89). -/
def decodeSetPayload (cfg : Config) (p : List Byte) : Except DecodeError Instr :=
  let fl := payloadByte p cfg.setOff.flags
  let temp := payloadByte p cfg.setOff.temp
  let sw := decodeSwing cfg fl
  let pr := decodePreset cfg fl
  match decodeMode cfg (payloadByte p cfg.setOff.mode), decodeFan cfg (payloadByte p cfg.setOff.fan) with
  | some m, some f => acceptPayload (.set m f temp sw pr) (setPayload cfg m f temp sw pr) p
  | _, _ => .error (.badPayload p)

/-- The follow-me frame with this payload, by its subcommand byte (R86, R90, R107). -/
def decodeFmPayload (cfg : Config) (p : List Byte) : Except DecodeError Instr :=
  let sub := payloadByte p cfg.fmOff.sub
  let temp := payloadByte p cfg.fmOff.temp
  let sp := spFromRaw (payloadByte p cfg.fmOff.sp)
  if sub = fmInitCode then acceptPayload (.fmInit temp) (fmPayload cfg fmInitCode temp 0x00) p
  else if sub = fmUpdateCode then acceptPayload (.fmUpdate temp) (fmPayload cfg fmUpdateCode temp 0x00) p
  else if sub = fmStaticCode then acceptPayload (.fmStatic sp) (fmPayload cfg fmStaticCode 0x00 (spToRaw sp)) p
  else .error (.badSubcommand sub)

/-- The transmit frame with this command and payload. -/
def decodeTxPayload (cfg : Config) (code : Byte) (p : List Byte) : Except DecodeError Instr :=
  match cmdOfCode cfg code with
  | some .query => acceptPayload .query zero8 p
  | some .queryExt => acceptPayload .queryExt zero8 p
  | some .set => decodeSetPayload cfg p
  | some .followMe => decodeFmPayload cfg p
  | none => .error (.badCommand code)

/-- The checks that both directions share: preamble, then marker, then checksum (R125, decision D17). -/
def checkFrame (f : List Byte) (cs mk : Nat) : Except DecodeError Unit :=
  if f.getD 0 0 ≠ preamble then .error (.badPreamble (f.getD 0 0))
  else if f.getD mk 0 ≠ marker then .error (.badMarker (f.getD mk 0))
  else if f.getD cs 0 ≠ checksum f cs then .error (.badChecksum (checksum f cs) (f.getD cs 0))
  else .ok ()

/-- The transmit frame these bytes are: a frame the block can send, that is one that keeps R80, R81 and R94
(DESIGN CHOICE, entry 13; the block itself never reads a transmit frame). -/
def decodeTx (cfg : Config) (f : List Byte) : Except DecodeError Instr :=
  if f.length ≠ 16 then .error (.badLength f.length)
  else match checkFrame f 14 15 with
    | .error e => .error e
    | .ok () =>
      if (f.drop 2).take 4 ≠ cfg.txId.toList then .error .badIdentifier
      else decodeTxPayload cfg (f.getD 1 0) ((f.drop 6).take 8)

/-- The receive frame with this code, header and payload: `cmd_of_code` decides its kind (41_codec.md R125). -/
def rxInstr (cfg : Config) (code : Byte) (hdr q : List Byte) : Instr :=
  match cmdOfCode cfg code with
  | some .query => .rQuery hdr q
  | some .queryExt => .rQueryExt hdr q
  | some .set => .rSet hdr q
  | some .followMe => .rFollowMe hdr q
  | none => .rUnknown code hdr q

/-- `decode_rx(f)` (R125). -/
def decodeRx (cfg : Config) (f : List Byte) : Except DecodeError Instr :=
  if f.length ≠ 32 then .error (.badLength f.length)
  else match checkFrame f 30 31 with
    | .error e => .error e
    | .ok () => .ok (rxInstr cfg (f.getD 1 0) ((f.drop 2).take 4) ((f.drop 6).take 24))

/-- The temperature the block sees: `TEMP_FMT` maps a word of the port's format to `Rat` before it (R11, R127, D9). -/
def readPortTemp (cfg : Config) : PortTemp → Temp
  | .exact t => t
  | .formatted w => Config.tempOfPort cfg.tempFmt w

/-- The control request the block sees (10_state.md R45, D9). -/
def readPortControl (cfg : Config) (req : PortControlReq) : ControlReq :=
  ⟨req.mode, readPortTemp cfg req.target, req.fan, req.swing, req.preset⟩

/-- An input event is identified by its transaction name on its port (30_encoding.md R107, 10_state.md R38); its
temperature passes through the port's format first (decision D9). -/
def decodeTransaction (cfg : Config) (t : Transaction) : Except DecodeError Instr :=
  match t.port, t.call with
  | .ms, .ms => .ok .ms
  | .host, .control req => .ok (.control (readPortControl cfg req))
  | .host, .staticPressure v => .ok (.staticPressure v)
  | .sensor, .remoteTemp x => .ok (.remoteTemp (readPortTemp cfg x))
  | .reset, .reset => .ok .reset
  | .rx, .rxAppend bs => .ok (.rx bs)
  | p, _ => .error (.badPort p)

/-- The instruction a packet is (R107). -/
def decode (cfg : Config) : Packet → Except DecodeError Instr
  | .txFrame f => decodeTx cfg f
  | .rxFrame f => decodeRx cfg f
  | .transaction t => decodeTransaction cfg t

/-! ## Encoder -/

/-- A control request put on its port with its target exact (00_scope.md R11). -/
def portControl (req : ControlReq) : PortControlReq :=
  ⟨req.mode, .exact req.target, req.fan, req.swing, req.preset⟩

/-- The packet of a well-formed instruction, from the layouts of R80-R93 and the ports of R38. -/
def encode (cfg : Config) : Instr → Packet
  | .query => .txFrame (encodeTx cfg .query zero8)
  | .queryExt => .txFrame (encodeTx cfg .queryExt zero8)
  | .set m f temp sw p => .txFrame (encodeTx cfg .set (setPayload cfg m f temp sw p))
  | .fmInit temp => .txFrame (encodeTx cfg .followMe (fmPayload cfg fmInitCode temp 0x00))
  | .fmUpdate temp => .txFrame (encodeTx cfg .followMe (fmPayload cfg fmUpdateCode temp 0x00))
  | .fmStatic sp => .txFrame (encodeTx cfg .followMe (fmPayload cfg fmStaticCode 0x00 (spToRaw sp)))
  | .rQuery hdr q => .rxFrame (encodeRx (codeOf cfg .query) hdr q)
  | .rQueryExt hdr q => .rxFrame (encodeRx (codeOf cfg .queryExt) hdr q)
  | .rSet hdr q => .rxFrame (encodeRx (codeOf cfg .set) hdr q)
  | .rFollowMe hdr q => .rxFrame (encodeRx (codeOf cfg .followMe) hdr q)
  | .rUnknown code hdr q => .rxFrame (encodeRx code hdr q)
  | .reset => .transaction ⟨.reset, .reset⟩
  | .ms => .transaction ⟨.ms, .ms⟩
  | .control req => .transaction ⟨.host, .control (portControl req)⟩
  | .staticPressure v => .transaction ⟨.host, .staticPressure v⟩
  | .remoteTemp t => .transaction ⟨.sensor, .remoteTemp (.exact t)⟩
  | .rx bs => .transaction ⟨.rx, .rxAppend bs⟩

/-! ## The opcode table's words -/

/-- The `n` bytes of a number, the least significant first. -/
def bytesOf : Nat → Nat → List Byte
  | 0, _ => []
  | n + 1, w => BitVec.ofNat 8 w :: bytesOf n (w / 256)

/-- The bytes of a table word in wire order. Byte 0 holds bits 7..0; where that byte is the marker and not the preamble
the word is written as the table's own `match` column writes it, byte 0 the most significant (DESIGN CHOICE,
entry 14: no frame begins with the marker, so no frame is read two ways). -/
def frameOfWord (n w : Nat) : List Byte :=
  let f := bytesOf n w
  if f.headD 0 = marker then f.reverse else f

/-- The instruction a frame of `nbits` bits is, under a configuration: 128 bits are a transmit frame, 256 a receive
frame; events have no bits (R107). -/
def decodeWord (cfg : Config) (nbits w : Nat) : Option Instr :=
  if nbits = 128 then (decodeTx cfg (frameOfWord 16 w)).toOption
  else if nbits = 256 then (decodeRx cfg (frameOfWord 32 w)).toOption
  else none

/-- `decodeWord` under `REFCFG`, the configuration the opcode table's codes are written for. -/
def decodeTableWord (nbits w : Nat) : Option Instr := decodeWord Config.ref nbits w

/-! ## Textual form (R106) -/

/-- One hexadecimal digit. -/
def hexDigit (n : Nat) : Char := if n < 10 then Char.ofNat (48 + n) else Char.ofNat (55 + n)

/-- A frame as its bytes in hexadecimal, byte 0 first, separated by spaces (R106). -/
def hexFrame : List Byte → String
  | [] => ""
  | [b] => String.ofList [hexDigit (b.toNat / 16), hexDigit (b.toNat % 16)]
  | b :: bs => String.ofList [hexDigit (b.toNat / 16), hexDigit (b.toNat % 16)] ++ " " ++ hexFrame bs

end Sys2Proof
end

