-- ==== Sys2Proof/Machine/State.lean ====
section
/-! DEFINITION. The state of the block and of the agents at its ports, as plain data: every register of 10_state.md R20-R32, the configuration (R34), the transport's FIFO (R36), the stream of outputs and the queue of waiting inputs; the reasons a step can stop; the state after reset (70_reset_and_hazards.md R310). -/

namespace Sys2Proof.Machine

/-- Why the machine stops with a fault. -/
inductive Fault where
  /-- Raised by a receive step that must take `next(last_sent)` while `last_sent` is `none`: 45_sequencer.md R242 names no
  next state there. Invariant I-c (10_state.md R37) says no run reaches it. Safe (entry 10). -/
  | noCommandInFlight
deriving DecidableEq, Repr

/-- Why a step has no meaning. -/
inductive Refusal where
  /-- Raised by `exec` for an instruction without a meaning; no arm does. Safe. -/
  | notModelled (mnemonic : String)
  /-- Raised by every instruction under a configuration that fails a check of 30_encoding.md R95, and by `RESET` when
  the configuration supplied fails one: "a model refuses it" (70_reset_and_hazards.md R311, U14). Safe. -/
  | configNotAdmitted
  /-- Raised by the step when the waiting transaction is not one its port offers: the inputs are exactly those of
  10_state.md R39. Safe (entry 22). -/
  | unknownTransaction (port : Port)
deriving DecidableEq, Repr

/-- One of the two byte-addressed spaces (20_memory.md R60): the cells whose byte differs from what an unlisted cell
reads as, addresses strictly rising. -/
abbrev Memory := List Host.Cell

/-- What a cell that is not listed reads as. The spec leaves the contents of both buffers before their first writing
unspecified and never observed (U15); DESIGN CHOICE `0x00`, unsafe (entry 8). -/
def Memory.unlisted : Byte := 0x00

/-- The Climate Snapshot (10_state.md R24). -/
structure Snapshot where
  mode : Option Mode
  fan : Option Fan
  target : Temp
  swing : Option Bool
  preset : Option Preset
  action : Option Action
  current : Temp
deriving DecidableEq, Repr

/-- Every field of the snapshot absent, its reset value (R24). -/
def Snapshot.empty : Snapshot := ⟨none, none, none, none, none, none, none⟩

/-- The telemetry registers: the value last published for each item (R26). -/
structure Telemetry where
  outdoor : Temp
  coil1 : Temp
  coil2 : Temp
  coil3 : Temp
  currentDraw : Option Byte
  timerStart : Option Nat
  timerStop : Option Nat
  errorFlags : Option U16
  protectFlags : Option U16
  commError : Option Byte
  staticPressure : Option U4
deriving DecidableEq, Repr

/-- Nothing published yet, the reset value (R26). -/
def Telemetry.empty : Telemetry :=
  ⟨none, none, none, none, none, none, none, none, none, none, none⟩

/-- A telemetry item's name with a value of its type: the argument of `Publish` (10_state.md R26, R44). -/
inductive Reading where
  | outdoor (v : Rat)
  | coil1 (v : Rat)
  | coil2 (v : Rat)
  | coil3 (v : Rat)
  | currentDraw (v : Byte)
  | timerStart (minutes : Nat)
  | timerStop (minutes : Nat)
  | errorFlags (v : U16)
  | protectFlags (v : U16)
  | commError (v : Byte)
  | staticPressure (v : U4)
deriving DecidableEq, Repr

/-- Which decode table had no entry for a raw byte (60_exceptions.md R287). -/
inductive EnumField where
  | mode | fan
deriving DecidableEq, Repr

/-- The ten codes of the log port, each with the info R281 records. -/
inductive LogRecord where
  | len (n : Nat)
  | preamble (b : Byte)
  | marker (b : Byte)
  | checksum (computed received : Byte)
  | unknownResponse (code : Byte)
  | unknownEnum (which : EnumField) (raw : Byte)
  | spRange (v : Byte)
  | spNotOff (v : Byte)
  | tempRangeRequest (t : Rat)
  | tempRangeSkip (s : SendState)
  | snapshotIncomplete (s : SendState)
deriving DecidableEq, Repr

/-- The code names of R281; `E_TEMP_RANGE` has two infos, the temperature or the skipped state (R290). -/
inductive LogCode where
  | eLen | ePreamble | eMarker | eChecksum | eUnknownResponse | eUnknownEnum | eSpRange | eSpNotOff | eTempRange
  | eSnapshotIncomplete
deriving DecidableEq, Repr

/-- The severities of R281; no rule reads them. -/
inductive Severity where
  | error | warn
deriving DecidableEq, Repr

/-- The code of a log record (R281). -/
def LogRecord.code : LogRecord → LogCode
  | .len _ => .eLen
  | .preamble _ => .ePreamble
  | .marker _ => .eMarker
  | .checksum _ _ => .eChecksum
  | .unknownResponse _ => .eUnknownResponse
  | .unknownEnum _ _ => .eUnknownEnum
  | .spRange _ => .eSpRange
  | .spNotOff _ => .eSpNotOff
  | .tempRangeRequest _ => .eTempRange
  | .tempRangeSkip _ => .eTempRange
  | .snapshotIncomplete _ => .eSnapshotIncomplete

/-- The severity of a code (R281). -/
def LogCode.severity : LogCode → Severity
  | .eLen => .error
  | .ePreamble => .error
  | .eMarker => .error
  | .eChecksum => .error
  | .eUnknownResponse => .error
  | .eUnknownEnum => .warn
  | .eSpRange => .warn
  | .eSpNotOff => .warn
  | .eTempRange => .warn
  | .eSnapshotIncomplete => .warn

/-- One output of the block (10_state.md R38): a frame handed to the transport, the flush request after it, a
telemetry push, a snapshot-change signal, a log record. -/
inductive Output where
  | txWrite (frame : List Byte)
  | txFlush
  | publish (r : Reading)
  | notify
  | log (r : LogRecord)
deriving DecidableEq, Repr

/-- The whole machine: the block's registers and what stands at its ports. -/
structure State where
  /-- The latched configuration (10_state.md R34). -/
  cfg : Config
  /-- The configuration supplied for the next `RESET` (70_reset_and_hazards.md R311, R313). -/
  cfgIn : Config
  /-- The control-state register (10_state.md R20). -/
  state : CtrlState
  /-- The pending-command slot (R21). -/
  pending : Option SendState
  /-- The command of the exchange in flight (R22). -/
  lastSent : Option Cmd
  /-- The forced full-refresh flag (R23). -/
  forceRefresh : Bool
  /-- The Climate Snapshot (R24). -/
  snap : Snapshot
  /-- The telemetry registers (R26). -/
  tel : Telemetry
  /-- `fm_init` (R27). -/
  fmInit : Bool
  /-- `fm_last_reported` (R27). -/
  fmLastReported : Temp
  /-- `fm_kind` (R28). -/
  fmKind : FmKind
  /-- `fm_sp` (R28). -/
  fmSp : U4
  /-- The latest remote-sensor reading (R28). -/
  remote : Temp
  /-- `fm_last_ms` (R29). -/
  fmLastMs : U32
  /-- `fm_chg_armed` (R29). -/
  fmChgArmed : Bool
  /-- `fm_chg_deadline` (R29). -/
  fmChgDeadline : U32
  /-- `now_ms` (R30). -/
  nowMs : U32
  /-- `tick_ctr` (R30). -/
  tickCtr : U32
  /-- `win_armed` (R30). -/
  winArmed : Bool
  /-- `win_ctr` (R30). -/
  winCtr : U32
  /-- The transmit buffer, cells 0-15 (R31). -/
  tx : Memory
  /-- The receive buffer, cells 0-31 (R32). -/
  rx : Memory
  /-- `rx_count` (R32). -/
  rxCount : Byte
  /-- The transport's receive FIFO, oldest byte first (R36, R42). -/
  rxFifo : List Byte
  /-- The model's own field: the outputs so far, oldest first (00_scope.md R8; entry 7). -/
  out : List Output
  /-- The model's own field: the transactions waiting at the input ports, oldest first (entry 5). -/
  inbox : List Transaction
deriving DecidableEq, Repr

/-- The registers of the reset table (R310) under a configuration, with nothing at the ports. -/
def State.resetWith (c : Config) : State where
  cfg := c
  cfgIn := c
  state := .send .sendQuery
  pending := none
  lastSent := none
  forceRefresh := true
  snap := Snapshot.empty
  tel := Telemetry.empty
  fmInit := false
  fmLastReported := none
  fmKind := .temp
  fmSp := 0
  remote := none
  fmLastMs := 0
  fmChgArmed := false
  fmChgDeadline := 0
  nowMs := 0
  tickCtr := 0
  winArmed := false
  winCtr := 0
  tx := []
  rx := []
  rxCount := 0
  rxFifo := []
  out := []
  inbox := []

/-- The machine right after `RESET` (R310). The configuration is the spec's reference configuration
(DESIGN CHOICE, entry 2, unsafe); nothing waits at any port. -/
def State.reset : State := State.resetWith Config.ref

end Sys2Proof.Machine
end

