-- ==== Sys2Proof/Machine/Ops.lean ====
section
/-! DEFINITION. The named operations over the buffers and registers: byte reads and writes (00_scope.md R13), outputs and `raise Log` (60_exceptions.md R280), publication and notification (44_interpreter.md R210, R211), the request rule (45_sequencer.md R246), transmission (R237), the drain (R239), the next state after an exchange (R242-R244), a skipped send (R251). The block has no trap entry and no trap return (R292, R293): an error is `raise` and one of these transitions. -/

namespace Sys2Proof.Machine

/-! ## The two buffers (20_memory.md R60) -/

/-- `TX_LEN` (00_scope.md R10). -/
def txLen : Nat := 16

/-- `RX_LEN` (00_scope.md R10). -/
def rxLen : Nat := 32

/-- `MemRead(buf, i, 1)` (00_scope.md R13). -/
def Memory.read : Memory → Nat → Byte
  | [], _ => Memory.unlisted
  | (k, v) :: rest, a => if k = a then v else Memory.read rest a

/-- The entry of one cell, none where the byte is what an unlisted cell reads as. -/
def Memory.entry (a : Nat) (b : Byte) (rest : Memory) : Memory := if b = Memory.unlisted then rest else (a, b) :: rest

/-- `MemWrite(buf, i, 1, v)` (R13), kept in canonical form. -/
def Memory.write : Memory → Nat → Byte → Memory
  | [], a, b => Memory.entry a b []
  | (k, v) :: rest, a, b =>
    if a < k then Memory.entry a b ((k, v) :: rest)
    else if a = k then Memory.entry a b rest
    else (k, v) :: Memory.write rest a b

/-- Writes of a list of bytes from cell `a` on, in index order (20_memory.md R62). -/
def Memory.store : Memory → Nat → List Byte → Memory
  | m, _, [] => m
  | m, a, b :: bs => Memory.store (Memory.write m a b) (a + 1) bs

/-- The bytes of cells `a` to `a + n - 1`. -/
def Memory.load (m : Memory) (a : Nat) : Nat → List Byte
  | 0 => []
  | n + 1 => Memory.read m a :: Memory.load m (a + 1) n

/-- Every address is at least `lo` and below `size`, addresses strictly rise, and no entry is what an unlisted cell
reads as. -/
def Memory.wfFrom (size : Nat) : Nat → Memory → Bool
  | _, [] => true
  | lo, (k, v) :: rest => lo ≤ k && k < size && v != Memory.unlisted && Memory.wfFrom size (k + 1) rest

/-- The canonical form of a buffer of `size` cells. -/
def Memory.wf (size : Nat) (m : Memory) : Bool := Memory.wfFrom size 0 m

/-! ## Outcomes -/

/-- One sub-step after another within an event; a stop ends the event. -/
def andThen (o : Host.Outcome State Fault Refusal) (f : State → Host.Outcome State Fault Refusal) :
    Host.Outcome State Fault Refusal :=
  match o with
  | .next s => f s
  | .fault r => .fault r
  | .refused r => .refused r

/-- An event has a meaning only under an admitted configuration (30_encoding.md R95, U14). -/
def whenAdmitted (s : State) (o : Host.Outcome State Fault Refusal) : Host.Outcome State Fault Refusal :=
  if s.cfg.wf then o else .refused .configNotAdmitted

/-! ## Outputs -/

/-- Appends one output to the stream. -/
def State.emit (s : State) (o : Output) : State := { s with out := s.out ++ [o] }

/-- `raise Log(code, info)` (60_exceptions.md R280): one record, no register written. -/
def State.raise (s : State) (r : LogRecord) : State := s.emit (.log r)

/-- The item already holds this value: `tel.name = some v` (44_interpreter.md R210). -/
def Telemetry.holds (t : Telemetry) : Reading → Bool
  | .outdoor v => t.outdoor == some v
  | .coil1 v => t.coil1 == some v
  | .coil2 v => t.coil2 == some v
  | .coil3 v => t.coil3 == some v
  | .currentDraw v => t.currentDraw == some v
  | .timerStart v => t.timerStart == some v
  | .timerStop v => t.timerStop == some v
  | .errorFlags v => t.errorFlags == some v
  | .protectFlags v => t.protectFlags == some v
  | .commError v => t.commError == some v
  | .staticPressure v => t.staticPressure == some v

/-- `tel.name <- some v`. -/
def Telemetry.put (t : Telemetry) : Reading → Telemetry
  | .outdoor v => { t with outdoor := some v }
  | .coil1 v => { t with coil1 := some v }
  | .coil2 v => { t with coil2 := some v }
  | .coil3 v => { t with coil3 := some v }
  | .currentDraw v => { t with currentDraw := some v }
  | .timerStart v => { t with timerStart := some v }
  | .timerStop v => { t with timerStop := some v }
  | .errorFlags v => { t with errorFlags := some v }
  | .protectFlags v => { t with protectFlags := some v }
  | .commError v => { t with commError := some v }
  | .staticPressure v => { t with staticPressure := some v }

/-- `publish(name, v)` (R210). -/
def State.publish (s : State) (r : Reading) : State :=
  if s.tel.holds r then s else State.emit { s with tel := s.tel.put r } (.publish r)

/-- The items of a response, published in order (R209). -/
def State.publishAll : State → List Reading → State
  | s, [] => s
  | s, r :: rs => State.publishAll (s.publish r) rs

/-- `Notify()` at the end of a response, if the snapshot differs from the one captured at its start (R211). -/
def State.notifyIfChanged (s : State) (before : Snapshot) : State :=
  if s.snap = before then s else s.emit .notify

/-! ## Sequencer -/

/-- `request(S)`, the immediate-vs-pending rule (45_sequencer.md R246). -/
def State.request (s : State) (target : SendState) : State :=
  match s.state with
  | .awaiting => { s with pending := some target }
  | .send _ => { s with state := .send target }

/-- The cycle table `next : Cmd → SendState` (R243). -/
def nextSend (cycle : Cycle) : Cmd → SendState
  | .query => .sendQueryExt
  | .queryExt =>
    match cycle with
    | .poll => .sendQuery
    | .ring => .sendSet
  | .set => .sendFollowMe
  | .followMe => .sendQuery

/-- `SUCCESS()` (R242): the pending command, else the cycle. -/
def State.success (s : State) : Host.Outcome State Fault Refusal :=
  match s.pending with
  | some p => .next { s with state := .send p, pending := none }
  | none =>
    match s.lastSent with
    | some c => .next { s with state := .send (nextSend s.cfg.cycle c) }
    | none => .fault .noCommandInFlight

/-- `FAILURE()` (R244). -/
def State.failure (s : State) : Host.Outcome State Fault Refusal :=
  match s.cfg.recovery with
  | .fallbackQuery =>
    match s.pending with
    | some p => .next { s with state := .send p, pending := none }
    | none => .next { s with state := .send .sendQuery }
  | .advance => s.success

/-! ## Transmission -/

/-- `tx <- encode_tx(c, p); TxWrite(tx); TxFlush()` (R237, 20_memory.md R72): the frame handed over is what the
buffer then holds. -/
def State.txFrame (s : State) (c : Cmd) (p : List Byte) : State :=
  let tx := Memory.store s.tx 0 (encodeTx s.cfg c p)
  { s with tx := tx, out := s.out ++ [.txWrite (Memory.load tx 0 txLen), .txFlush] }

/-- The last four writes of a send (R237): the exchange is in flight and its window armed. -/
def State.armWindow (s : State) (c : Cmd) : State :=
  { s with lastSent := some c, state := .awaiting, winArmed := true, winCtr := s.cfg.windowMs }

/-- The effects of sending a temperature-kind follow-me frame (43_frames.md R189). -/
def State.fmTempSent (s : State) : State :=
  { s with fmLastReported := s.remote, fmChgArmed := false, fmLastMs := s.nowMs }

/-- The effects of sending a static-pressure follow-me frame (R189): it is sent once. -/
def State.fmStaticSent (s : State) : State :=
  { s with fmKind := .temp, fmLastMs := s.nowMs }

/-- Why a builder sends nothing (43_frames.md R184, R187). -/
inductive SkipReason where
  | suppressed | noReading | tempRange | snapshotIncomplete
deriving DecidableEq, Repr

/-- `SKIPPED(S, reason)` (45_sequencer.md R251). -/
def State.skipped (s : State) (target : SendState) (reason : SkipReason) : State :=
  let logged :=
    match reason with
    | .suppressed => s
    | .noReading => s
    | .tempRange => s.raise (.tempRangeSkip target)
    | .snapshotIncomplete => s.raise (.snapshotIncomplete target)
  { logged with state := .send .sendQuery }

/-! ## Receive -/

/-- The drain (R239): every byte of the FIFO is removed and counted, the first 32 are stored. -/
def State.drain (s : State) : State :=
  { s with
    rx := Memory.store s.rx 0 (s.rxFifo.take rxLen)
    rxCount := BitVec.ofNat 8 (min s.rxFifo.length 255)
    rxFifo := [] }

/-- The log record of a frame that `decode_rx` rejects (60_exceptions.md R282-R285). The identifier, command,
subcommand, payload and port errors are not `decode_rx`'s: they have no record. -/
def rejectRecord : DecodeError → Option LogRecord
  | .badLength n => some (.len n)
  | .badPreamble b => some (.preamble b)
  | .badMarker b => some (.marker b)
  | .badChecksum computed received => some (.checksum computed received)
  | .badIdentifier => none
  | .badCommand _ => none
  | .badSubcommand _ => none
  | .badPayload _ => none
  | .badPort _ => none

/-- `raise Log(e, info)` for a rejected frame (45_sequencer.md R241). -/
def State.raiseReject (s : State) (e : DecodeError) : State :=
  match rejectRecord e with
  | some r => s.raise r
  | none => s

/-- `elapsed(a, b) = (a - b) mod 2^32` (45_sequencer.md, before R230). -/
def elapsed (a b : U32) : U32 := a - b

/-! ## The input queue -/

/-- The transaction the next step takes: the oldest waiting one, and the time base's `MS` where none waits
(DESIGN CHOICE, entry 5; 10_state.md R41). -/
def State.fetch (s : State) : Transaction :=
  match s.inbox with
  | [] => ⟨.ms, .ms⟩
  | t :: _ => t

/-- The state with that transaction taken from the queue. -/
def State.advance (s : State) : State := { s with inbox := s.inbox.tail }

end Sys2Proof.Machine
end

