-- ==== Sys2Proof/Machine/Builders.lean ====
section
/-! DEFINITION. The frame builders of 43_frames.md R180-R188: each reads the snapshot and the follow-me registers and gives the transmit frame to send, or the reason to skip. -/

namespace Sys2Proof.Machine

/-- What a builder answers (43_frames.md, before R180). -/
inductive Build where
  | send (frame : Instr)
  | skip (reason : SkipReason)
deriving DecidableEq, Repr

/-- `BUILD_QUERY` (R181). -/
def buildQuery (_ : State) : Build := .send .query

/-- `BUILD_QUERY_EXT` (R182). -/
def buildQueryExt (_ : State) : Build := .send .queryExt

/-- `BUILD_SET` (R183, R184). -/
def buildSet (s : State) : Build :=
  match s.snap.mode, s.snap.fan, s.snap.target, s.snap.swing, s.snap.preset with
  | some m, some f, some t, some sw, some p =>
    match targetToRaw s.cfg (some t) with
    | some raw => .send (.set m f raw sw p)
    | none => .skip .tempRange
  | _, _, _, _, _ => .skip .snapshotIncomplete

/-- `BUILD_FOLLOW_ME`, temperature kind (R185-R187): `FM_INIT` while the session is not initialized, else
`FM_UPDATE`. -/
def buildFollowMe (s : State) : Build :=
  if s.snap.mode = none ∨ s.snap.mode = some .off then .skip .suppressed
  else
    match s.remote with
    | none => .skip .noReading
    | some c =>
      match fromCelsius c with
      | none => .skip .tempRange
      | some raw => .send (if s.fmInit then .fmUpdate raw else .fmInit raw)

/-- `BUILD_FM_STATIC` (R188). -/
def buildFmStatic (s : State) : Build := .send (.fmStatic s.fmSp)

/-- The builder of a send state (45_sequencer.md R237). -/
def build (s : State) : SendState → Build
  | .sendQuery => buildQuery s
  | .sendQueryExt => buildQueryExt s
  | .sendSet => buildSet s
  | .sendFollowMe =>
    match s.fmKind with
    | .staticPressure => buildFmStatic s
    | .temp => buildFollowMe s

end Sys2Proof.Machine
end

