-- ==== Sys2Proof/Machine/Responses.lean ====
section
/-! DEFINITION. The meanings of the five receive frames: the `Valid` arm of 45_sequencer.md R241, that is the response interpreter of 44_interpreter.md R200-R215 unless the command sent was `SET`, then `SUCCESS`. -/

namespace Sys2Proof.Machine

/-! ## The steps of a query response (44_interpreter.md R201) -/

/-- Mode (R202). -/
def State.applyMode (s : State) (q : List Byte) : State :=
  match correctedMode s.cfg (payloadByte q s.cfg.rxq.mode) with
  | some m => { s with snap := { s.snap with mode := some m } }
  | none => s.raise (.unknownEnum .mode (payloadByte q s.cfg.rxq.mode))

/-- Fan (R203). -/
def State.applyFan (s : State) (q : List Byte) : State :=
  match decodeFan s.cfg (payloadByte q s.cfg.rxq.fan) with
  | some f => { s with snap := { s.snap with fan := some f } }
  | none => s.raise (.unknownEnum .fan (payloadByte q s.cfg.rxq.fan))

/-- Swing and preset (R204). -/
def State.applyModeFlags (s : State) (q : List Byte) : State :=
  let fl := payloadByte q s.cfg.rxq.modeFlags
  { s with snap := { s.snap with swing := some (decodeSwing s.cfg fl), preset := some (decodePreset s.cfg fl) } }

/-- Action, from the snapshot mode before this response (R205). -/
def State.applyAction (s : State) (pm : Option Mode) (q : List Byte) : State :=
  match computeAction s.cfg pm q with
  | some a => { s with snap := { s.snap with action := some a } }
  | none => s

/-- Target temperature: withheld while the response says OFF, unless the forced refresh is due (R206). -/
def State.applyTarget (s : State) (q : List Byte) : State :=
  if correctedMode s.cfg (payloadByte q s.cfg.rxq.mode) = some .off ∧ s.forceRefresh = false then s
  else { s with snap := { s.snap with target := some (targetFromRaw s.cfg (payloadByte q s.cfg.rxq.target)) } }

/-- Current temperature (R208). -/
def State.applyCurrent (s : State) (q : List Byte) : State :=
  match s.cfg.currentSrc with
  | .device => { s with snap := { s.snap with current := some (toCelsius (payloadByte q s.cfg.rxq.t1)) } }
  | .remote =>
    match s.remote with
    | some t => { s with snap := { s.snap with current := some t } }
    | none => s

/-- The telemetry items of a query response, in the order of R209's table. -/
def queryReadings (cfg : Config) (q : List Byte) : List Reading :=
  [.coil1 (toCelsius (payloadByte q cfg.rxq.t2a)),
   .coil2 (toCelsius (payloadByte q cfg.rxq.t2b)),
   .coil3 (toCelsius (payloadByte q cfg.rxq.t3)),
   .currentDraw (payloadByte q cfg.rxq.current),
   .timerStart (timerDecode cfg (payloadByte q cfg.rxq.tstart)),
   .timerStop (timerDecode cfg (payloadByte q cfg.rxq.tstop)),
   .errorFlags (wordAt cfg q cfg.rxq.err),
   .protectFlags (wordAt cfg q cfg.rxq.prot),
   .commError (payloadByte q cfg.rxq.commErr)]

/-- The snapshot steps of `apply_query` in order, with the clearing of `force_refresh` (R202-R208). -/
def State.applyQuerySnapshot (s : State) (q : List Byte) : State :=
  let flagged := ((s.applyMode q).applyFan q).applyModeFlags q
  let acted := flagged.applyAction s.snap.mode q
  State.applyCurrent { acted.applyTarget q with forceRefresh := false } q

/-- `apply_query()` (R201). -/
def State.applyQuery (s : State) (q : List Byte) : State :=
  ((s.applyQuerySnapshot q).publishAll (queryReadings s.cfg q)).notifyIfChanged s.snap

/-! ## The query-extended response -/

/-- The telemetry items of a query-extended response, in order (R212). -/
def queryExtReadings (cfg : Config) (q : List Byte) : List Reading :=
  [.outdoor (toCelsius (payloadByte q cfg.rxe.outdoor)),
   .staticPressure (spFromRaw (payloadByte q cfg.rxe.sp))]

/-- Extended target refresh (R213). -/
def State.applyExtTarget (s : State) (q : List Byte) : State :=
  if s.cfg.extTargetRefresh then
    { s with snap := { s.snap with target := some (targetFromRaw s.cfg (payloadByte q s.cfg.rxe.target)) } }
  else s

/-- `apply_query_ext()` (R212). -/
def State.applyQueryExt (s : State) (q : List Byte) : State :=
  ((s.publishAll (queryExtReadings s.cfg q)).applyExtTarget q).notifyIfChanged s.snap

/-! ## The five kinds -/

/-- The `Valid` arm of R241: `interpret` unless the command sent was `SET`, then `SUCCESS()`. -/
def State.route (s : State) (interpreted : State) : Host.Outcome State Fault Refusal :=
  whenAdmitted s (if s.lastSent = some .set then s.success else interpreted.success)

/-- `R_QUERY` (R201). -/
def execRQuery (_hdr q : List Byte) (s : State) : Host.Outcome State Fault Refusal :=
  s.route (s.applyQuery q)

/-- `R_QUERY_EXT` (R212). -/
def execRQueryExt (_hdr q : List Byte) (s : State) : Host.Outcome State Fault Refusal :=
  s.route (s.applyQueryExt q)

/-- `R_SET` (R214): nothing is read. -/
def execRSet (_hdr _q : List Byte) (s : State) : Host.Outcome State Fault Refusal :=
  s.route s

/-- `R_FOLLOW_ME` (R214): nothing is read. -/
def execRFollowMe (_hdr _q : List Byte) (s : State) : Host.Outcome State Fault Refusal :=
  s.route s

/-- `R_UNKNOWN` (R215, 60_exceptions.md R286): logged, not interpreted, a success for the sequencer. -/
def execRUnknown (code : Byte) (_hdr _q : List Byte) (s : State) : Host.Outcome State Fault Refusal :=
  s.route (s.raise (.unknownResponse code))

end Sys2Proof.Machine
end

