-- ==== Sys2Proof/Machine/Transmit.lean ====
section
/-! DEFINITION. The meanings of the six transmit frames: the `Send` arm of 45_sequencer.md R237 for each, with the follow-me effects of 43_frames.md R189. A frame's operands are the payload fields its builder chose (DEDUCED, entry 9). -/

namespace Sys2Proof.Machine

/-- `QUERY` is sent (43_frames.md R181). -/
def execQuery (s : State) : Host.Outcome State Fault Refusal :=
  whenAdmitted s (.next ((s.txFrame .query zero8).armWindow .query))

/-- `QUERY_EXT` is sent (R182). -/
def execQueryExt (s : State) : Host.Outcome State Fault Refusal :=
  whenAdmitted s (.next ((s.txFrame .queryExt zero8).armWindow .queryExt))

/-- `SET` is sent (R183). -/
def execSet (m : Mode) (f : Fan) (temp : Byte) (sw : Bool) (p : Preset) (s : State) :
    Host.Outcome State Fault Refusal :=
  whenAdmitted s (.next ((s.txFrame .set (setPayload s.cfg m f temp sw p)).armWindow .set))

/-- `FM_INIT` is sent; the session becomes initialized (R185, R186, R189). -/
def execFmInit (temp : Byte) (s : State) : Host.Outcome State Fault Refusal :=
  let sent := (s.txFrame .followMe (fmPayload s.cfg fmInitCode temp 0x00)).fmTempSent
  whenAdmitted s (.next (State.armWindow { sent with fmInit := true } .followMe))

/-- `FM_UPDATE` is sent (R185, R186, R189). -/
def execFmUpdate (temp : Byte) (s : State) : Host.Outcome State Fault Refusal :=
  let sent := (s.txFrame .followMe (fmPayload s.cfg fmUpdateCode temp 0x00)).fmTempSent
  whenAdmitted s (.next (sent.armWindow .followMe))

/-- `FM_STATIC` is sent, once (R188, R189). -/
def execFmStatic (sp : U4) (s : State) : Host.Outcome State Fault Refusal :=
  let sent := (s.txFrame .followMe (fmPayload s.cfg fmStaticCode 0x00 (spToRaw sp))).fmStaticSent
  whenAdmitted s (.next (sent.armWindow .followMe))

end Sys2Proof.Machine
end

