-- ==== Sys2Proof/Machine/Events.lean ====
section
/-! DEFINITION. The meanings of the six input events: `RESET` (70_reset_and_hazards.md R310, R311), `MS` with its four sub-steps (45_sequencer.md R231-R244), `CONTROL` (R245), `STATIC_PRESSURE` (R248), `REMOTE_TEMP` (R249), and the transport agent's `RX` (R230). -/

namespace Sys2Proof.Machine

/-! ## RESET -/

/-- The state a `RESET` leaves: the reset table under the supplied configuration; the transport's FIFO, the outputs
already made and the waiting inputs are not the block's registers (R310, R314). -/
def State.afterReset (s : State) : State :=
  { State.resetWith s.cfgIn with rxFifo := s.rxFifo, out := s.out, inbox := s.inbox }

/-- `RESET` (R310): the supplied configuration is latched if every check of R95 holds, and refused otherwise (R311). -/
def execReset (s : State) : Host.Outcome State Fault Refusal :=
  if s.cfgIn.wf then .next s.afterReset else .refused .configNotAdmitted

/-! ## MS -/

/-- The meaning of a transmit frame that a builder chose. -/
def runTransmit (i : Instr) (s : State) : Host.Outcome State Fault Refusal :=
  match i with
  | .query => execQuery s
  | .queryExt => execQueryExt s
  | .set m f temp sw p => execSet m f temp sw p s
  | .fmInit temp => execFmInit temp s
  | .fmUpdate temp => execFmUpdate temp s
  | .fmStatic sp => execFmStatic sp s
  | .rQuery _ _ => .next s
  | .rQueryExt _ _ => .next s
  | .rSet _ _ => .next s
  | .rFollowMe _ _ => .next s
  | .rUnknown _ _ _ => .next s
  | .reset => .next s
  | .ms => .next s
  | .control _ => .next s
  | .staticPressure _ => .next s
  | .remoteTemp _ => .next s
  | .rx _ => .next s

/-- The meaning of a receive frame that the decoder found. -/
def runResponse (i : Instr) (s : State) : Host.Outcome State Fault Refusal :=
  match i with
  | .query => .next s
  | .queryExt => .next s
  | .set _ _ _ _ _ => .next s
  | .fmInit _ => .next s
  | .fmUpdate _ => .next s
  | .fmStatic _ => .next s
  | .rQuery hdr q => execRQuery hdr q s
  | .rQueryExt hdr q => execRQueryExt hdr q s
  | .rSet hdr q => execRSet hdr q s
  | .rFollowMe hdr q => execRFollowMe hdr q s
  | .rUnknown code hdr q => execRUnknown code hdr q s
  | .reset => .next s
  | .ms => .next s
  | .control _ => .next s
  | .staticPressure _ => .next s
  | .remoteTemp _ => .next s
  | .rx _ => .next s

/-- `SEND(S)` (R237). -/
def State.send (s : State) (target : SendState) : Host.Outcome State Fault Refusal :=
  match build s target with
  | .send i => runTransmit i s
  | .skip reason => .next (s.skipped target reason)

/-- `RECEIVE()` (R239-R241): drain, length check, decode and route. -/
def State.receive (s : State) : Host.Outcome State Fault Refusal :=
  if s.rxFifo.length ≠ rxLen then (s.drain.raise (.len s.rxFifo.length)).failure
  else
    match decodeRx s.cfg (Memory.load s.drain.rx 0 rxLen) with
    | .ok i => runResponse i s.drain
    | .error e => (s.drain.raiseReject e).failure

/-- Time (R232). -/
def State.tickTime (s : State) : State := { s with nowMs := s.nowMs + 1 }

/-- Response window (R233). -/
def State.window (s : State) : Host.Outcome State Fault Refusal :=
  if s.winArmed then
    if s.winCtr - 1 = 0 then State.receive { s with winCtr := s.winCtr - 1, winArmed := false }
    else .next { s with winCtr := s.winCtr - 1 }
  else .next s

/-- The scheduler's condition: a mode other than OFF and a reading are held, and the period has passed or an armed
change deadline is reached (R234). -/
def State.reportDue (s : State) : Bool :=
  s.snap.mode.isSome && s.snap.mode != some .off && s.remote.isSome &&
  (decide (s.cfg.fmPeriodMs ≤ elapsed s.nowMs s.fmLastMs) ||
   (s.fmChgArmed && decide (elapsed s.nowMs s.fmChgDeadline < 0x80000000)))

/-- Follow-me scheduler (R234). -/
def State.schedule (s : State) : State :=
  if s.reportDue then State.request { s with fmLastMs := s.nowMs, fmChgArmed := false } .sendFollowMe else s

/-- Tick (R235, R236, R238). -/
def State.tick (s : State) : Host.Outcome State Fault Refusal :=
  if s.tickCtr + 1 = s.cfg.tickMs then
    match s.state with
    | .awaiting => .next { s with tickCtr := 0 }
    | .send target => State.send { s with tickCtr := 0 } target
  else .next { s with tickCtr := s.tickCtr + 1 }

/-- `MS` (R231): time, window, scheduler, tick, in this order. -/
def execMs (s : State) : Host.Outcome State Fault Refusal :=
  whenAdmitted s (andThen s.tickTime.window fun t => t.schedule.tick)

/-! ## CONTROL -/

/-- The present fields of a request merged into the snapshot (R245). -/
def Snapshot.merge (snap : Snapshot) (req : ControlReq) : Snapshot :=
  { snap with
    mode := req.mode.orElse fun _ => snap.mode
    target := req.target.orElse fun _ => snap.target
    fan := req.fan.orElse fun _ => snap.fan
    swing := req.swing.orElse fun _ => snap.swing
    preset := req.preset.orElse fun _ => snap.preset }

/-- The request's mode field is present and differs from the snapshot's (R245, R247). -/
def modeChanges (snap : Snapshot) (req : ControlReq) : Bool := req.mode.isSome && req.mode != snap.mode

/-- An accepted control request (R245, R247). -/
def State.acceptControl (s : State) (req : ControlReq) : State :=
  State.request
    { s with
      snap := s.snap.merge req
      fmInit := if modeChanges s.snap req then false else s.fmInit }
    .sendSet

/-- `CONTROL(req)` (R245): a target that cannot be encoded rejects the whole request. -/
def execControl (req : ControlReq) (s : State) : Host.Outcome State Fault Refusal :=
  whenAdmitted s
    (match req.target with
     | some t =>
       if targetToRaw s.cfg (some t) = none then .next (s.raise (.tempRangeRequest t)) else .next (s.acceptControl req)
     | none => .next (s.acceptControl req))

/-! ## STATIC_PRESSURE -/

/-- `STATIC_PRESSURE(v)` (R248): range first, then mode. -/
def execStaticPressure (v : Byte) (s : State) : Host.Outcome State Fault Refusal :=
  whenAdmitted s
    (if spMax < v.toNat then .next (s.raise (.spRange v))
     else if s.snap.mode ≠ some .off then .next (s.raise (.spNotOff v))
     else .next (State.request { s with fmKind := .staticPressure, fmSp := spFromRaw v } .sendFollowMe))

/-! ## REMOTE_TEMP -/

/-- A reading that differs from the one held; a present one arms the change trigger unless it is armed (R249). -/
def State.newReading (s : State) (t : Temp) : State :=
  if t.isSome && !s.fmChgArmed then
    { s with remote := t, fmChgArmed := true, fmChgDeadline := s.nowMs + s.cfg.fmChangeMs }
  else { s with remote := t }

/-- `REMOTE_TEMP(t)` (R249). -/
def execRemoteTemp (t : Temp) (s : State) : Host.Outcome State Fault Refusal :=
  whenAdmitted s (.next (if t = s.remote then s else s.newReading t))

/-! ## RX -/

/-- `RX <bytes>`: the transport agent appends to its FIFO; no block register changes (R230, R239). -/
def execRx (bytes : List Byte) (s : State) : Host.Outcome State Fault Refusal :=
  whenAdmitted s (.next { s with rxFifo := s.rxFifo ++ bytes })

/-! ## The pseudo-events of 30_encoding.md R106 -/

/-- `WAIT_TICK`: the least number of `MS` events that makes `tick_ctr` reach `TICK_MS`. -/
def State.waitTick (s : State) : List Transaction := List.replicate (s.cfg.tickMs - s.tickCtr).toNat ⟨.ms, .ms⟩

/-- `WAIT_WINDOW`: `win_ctr` `MS` events while the window is armed. -/
def State.waitWindow (s : State) : List Transaction :=
  if s.winArmed then List.replicate s.winCtr.toNat ⟨.ms, .ms⟩ else []

end Sys2Proof.Machine
end

