-- ==== Sys2Proof/Machine/Dispatch.lean ====
section
/-! DEFINITION. The dispatch: one arm per row of the opcode table, each one call of that instruction's meaning. -/

namespace Sys2Proof.Machine

def exec (i : Instr) (s : State) : Host.Outcome State Fault Refusal :=
  match i with
  | .query => Sys2Proof.Machine.execQuery s
  | .queryExt => Sys2Proof.Machine.execQueryExt s
  | .set m f temp sw p => Sys2Proof.Machine.execSet m f temp sw p s
  | .fmInit temp => Sys2Proof.Machine.execFmInit temp s
  | .fmUpdate temp => Sys2Proof.Machine.execFmUpdate temp s
  | .fmStatic sp => Sys2Proof.Machine.execFmStatic sp s
  | .rQuery hdr q => Sys2Proof.Machine.execRQuery hdr q s
  | .rQueryExt hdr q => Sys2Proof.Machine.execRQueryExt hdr q s
  | .rSet hdr q => Sys2Proof.Machine.execRSet hdr q s
  | .rFollowMe hdr q => Sys2Proof.Machine.execRFollowMe hdr q s
  | .rUnknown code hdr q => Sys2Proof.Machine.execRUnknown code hdr q s
  | .reset => Sys2Proof.Machine.execReset s
  | .ms => Sys2Proof.Machine.execMs s
  | .control req => Sys2Proof.Machine.execControl req s
  | .staticPressure v => Sys2Proof.Machine.execStaticPressure v s
  | .remoteTemp t => Sys2Proof.Machine.execRemoteTemp t s
  | .rx bytes => Sys2Proof.Machine.execRx bytes s

end Sys2Proof.Machine
end

