-- ==== Sys2Proof/Machine/Loader.lean ====
section
/-! DEFINITION. Placing one frame so that the very next step runs it. The block fetches no program (20_memory.md R75): a transmit frame runs at the tick that finds its send state, a receive frame runs when the window closes over its bytes, and the next step is the `MS` event in which that happens (entry 6). -/

namespace Sys2Proof.Machine

/-- No input waits, so that the next step is `MS`, and the follow-me scheduler does not fire in it. -/
def State.quiet (s : State) : State := { s with inbox := [], fmLastMs := s.nowMs + 1, fmChgArmed := false }

/-- The next `MS` is a tick in this send state. -/
def State.aimTick (s : State) (target : SendState) : State :=
  { s.quiet with state := .send target, winArmed := false, tickCtr := s.cfg.tickMs - 1 }

/-- The mode held, or one that lets a follow-me report go out (43_frames.md R187). -/
def reportingMode : Option Mode → Option Mode
  | none => some .cool
  | some .off => some .cool
  | some m => some m

/-- The next tick builds a temperature-kind follow-me frame with this byte and session flag. -/
def State.aimFollowMe (s : State) (initialized : Bool) (temp : Byte) : State :=
  { s.aimTick .sendFollowMe with
    fmKind := .temp
    fmInit := initialized
    remote := some (toCelsius temp)
    snap := { s.snap with mode := reportingMode s.snap.mode } }

/-- The next tick builds exactly this transmit frame; any other instruction leaves the state. -/
def State.aimTransmit (s : State) (i : Instr) : State :=
  match i with
  | .query => s.aimTick .sendQuery
  | .queryExt => s.aimTick .sendQueryExt
  | .set m f temp sw p =>
    { s.aimTick .sendSet with
      snap := { s.snap with
        mode := some m
        fan := some f
        target := some (targetFromRaw s.cfg temp)
        swing := some sw
        preset := some p } }
  | .fmInit temp => s.aimFollowMe false temp
  | .fmUpdate temp => s.aimFollowMe true temp
  | .fmStatic sp => { s.aimTick .sendFollowMe with fmKind := .staticPressure, fmSp := sp }
  | .rQuery _ _ => s
  | .rQueryExt _ _ => s
  | .rSet _ _ => s
  | .rFollowMe _ _ => s
  | .rUnknown _ _ _ => s
  | .reset => s
  | .ms => s
  | .control _ => s
  | .staticPressure _ => s
  | .remoteTemp _ => s
  | .rx _ => s

/-- The command in flight, or `QUERY` where there is none or its response would not be interpreted (R241). -/
def interpretedCommand : Option Cmd → Option Cmd
  | some .queryExt => some .queryExt
  | some .followMe => some .followMe
  | some .query => some .query
  | some .set => some .query
  | none => some .query

/-- The next `MS` closes the response window over exactly these bytes. -/
def State.aimReceive (s : State) (bytes : List Byte) : State :=
  { s.quiet with
    state := .awaiting
    lastSent := interpretedCommand s.lastSent
    winArmed := true
    winCtr := 1
    tickCtr := 0
    rxFifo := bytes }

/-- The frame of a table word placed so that the next step runs it; a word that is no frame changes nothing. -/
def State.placeWord (s : State) (nbits w : Nat) : State :=
  if nbits = 128 then
    match decodeTx s.cfg (frameOfWord 16 w) with
    | .ok i => s.aimTransmit i
    | .error _ => s
  else if nbits = 256 then s.aimReceive (frameOfWord 32 w)
  else s

end Sys2Proof.Machine
end

