-- ==== Sys2Proof/Machine/Step.lean ====
section
/-! DEFINITION. One step: the oldest waiting transaction, or the time base's `MS` where none waits, is decoded and run (00_scope.md R8, R14; entry 5). -/

namespace Sys2Proof.Machine

/-- One block event. -/
def step (s : State) : Host.Outcome State Fault Refusal :=
  match decodeTransaction s.cfg s.fetch with
  | .ok i => exec i s.advance
  | .error _ => .refused (.unknownTransaction s.fetch.port)

/-- The state in which the next step runs the frame of a table word (entry 6). -/
def State.withFetchWord (s : State) (nbits w : Nat) : State := s.placeWord nbits w

end Sys2Proof.Machine
end

