-- ==== Sys2Proof/Safety.lean ====
section
/-! DEFINITION. What counts as a safe state and a safe run: the invariants I-a to I-d of 10_state.md R37, the canonical form of the buffers, the timing of an exchange (70_reset_and_hazards.md R323), an encodable target (60_exceptions.md R290), a complete snapshot (R291). -/

namespace Sys2Proof.Machine

/-- (I-a) `pending ≠ none ⇒ state = AWAITING`. -/
def State.pendingOnlyAwaiting (s : State) : Prop := s.pending ≠ none → s.state = .awaiting

/-- (I-b) `win_armed ⇔ state = AWAITING`. -/
def State.windowIffAwaiting (s : State) : Prop := s.winArmed = true ↔ s.state = .awaiting

/-- (I-c) `state = AWAITING ⇒ last_sent ≠ none`. -/
def State.awaitingKnowsCommand (s : State) : Prop := s.state = .awaiting → s.lastSent ≠ none

/-- (I-d) `fm_kind = FM_STATIC ⇒ fm_sp ≤ 15`. -/
def State.staticPressureInRange (s : State) : Prop := s.fmKind = .staticPressure → s.fmSp.toNat ≤ spMax

/-- The four invariants of R37. -/
structure State.Inv (s : State) : Prop where
  pendingOnlyAwaiting : s.pendingOnlyAwaiting
  windowIffAwaiting : s.windowIffAwaiting
  awaitingKnowsCommand : s.awaitingKnowsCommand
  staticPressureInRange : s.staticPressureInRange

/-- Both buffers are in canonical form (20_memory.md R60). -/
def State.BuffersWf (s : State) : Prop := Memory.wf txLen s.tx = true ∧ Memory.wf rxLen s.rx = true

/-- The clocks of an exchange agree: the tick counter is below the tick period, and while a response is awaited the
window's remainder is positive and, with the milliseconds since the sending tick, makes up the window (R233, R235,
R237). -/
structure State.TimingWf (s : State) : Prop where
  tickBelow : s.tickCtr < s.cfg.tickMs
  awaitingPositive : s.state = .awaiting → 0 < s.winCtr.toNat
  awaitingSum : s.state = .awaiting → s.tickCtr.toNat + s.winCtr.toNat = s.cfg.windowMs.toNat

/-- The target temperature held, if any, can be encoded (60_exceptions.md R290). -/
def State.TargetEncodable (s : State) : Prop := s.snap.target ≠ none → targetToRaw s.cfg s.snap.target ≠ none

/-- The five fields that a set frame carries are known (43_frames.md R184). -/
def Snapshot.complete (snap : Snapshot) : Bool :=
  snap.mode.isSome && snap.fan.isSome && snap.target.isSome && snap.swing.isSome && snap.preset.isSome

/-- `f` is the transmit frame of the table of 30_encoding.md R80 with this command and payload; that all bytes sum to
`0xFF` modulo 256 is the checksum (41_codec.md R122). -/
structure IsTxFrame (cfg : Config) (c : Cmd) (p f : List Byte) : Prop where
  length : f.length = 16
  preamble : f.getD 0 0 = 0xAA
  command : f.getD 1 0 = codeOf cfg c
  identifier : ∀ k, k < 4 → f.getD (2 + k) 0 = cfg.txId.toList.getD k 0
  payload : ∀ k, k < 8 → f.getD (6 + k) 0 = p.getD k 0
  checksum : (f.map BitVec.toNat).sum % 256 = 0xFF
  marker : f.getD 15 0 = 0x55

/-- `p` is the set payload of the table of 30_encoding.md R89: four fields, and `0x00` everywhere else. -/
def IsSetPayload (cfg : Config) (m : Mode) (f : Fan) (temp : Byte) (sw : Bool) (pr : Preset) (p : List Byte) : Prop :=
  p.length = 8 ∧ ∀ o, 6 ≤ o → o ≤ 13 →
    p.getD (o - 6) 0 =
      if o = cfg.setOff.mode then encodeMode cfg m
      else if o = cfg.setOff.fan then encodeFan cfg f
      else if o = cfg.setOff.temp then temp
      else if o = cfg.setOff.flags then encodeFlags cfg sw pr
      else 0x00

/-- `p` is the follow-me payload of the table of R90: three fields, and `0x00` everywhere else. -/
def IsFmPayload (cfg : Config) (sub temp sp : Byte) (p : List Byte) : Prop :=
  p.length = 8 ∧ ∀ o, 6 ≤ o → o ≤ 13 →
    p.getD (o - 6) 0 =
      if o = cfg.fmOff.sub then sub
      else if o = cfg.fmOff.temp then temp
      else if o = cfg.fmOff.sp then sp
      else 0x00

/-- `t` follows `s` by sending the frame with this command and payload (45_sequencer.md R237): the transmit buffer
holds the frame and no cell outside it changed, the frame and the flush went out, the exchange is in flight, and
everything else is as in `u`, the state with the frame's own effects (43_frames.md R189). -/
def SentFrame (c : Cmd) (p : List Byte) (s u t : State) : Prop :=
  ∃ f, IsTxFrame s.cfg c p f ∧
    (∀ a, a < 16 → Memory.read t.tx a = f.getD a 0) ∧ (∀ a, 16 ≤ a → Memory.read t.tx a = Memory.read s.tx a) ∧
    t = { u with
      tx := t.tx
      out := s.out ++ [.txWrite f, .txFlush]
      lastSent := some c
      state := .awaiting
      winArmed := true
      winCtr := s.cfg.windowMs }

/-- The send state that follows a successful exchange: the pending command, else the cycle (R242). -/
def SucceedsTo (s : State) (p : SendState) : Prop :=
  s.pending = some p ∨ (s.pending = none ∧ ∃ c, s.lastSent = some c ∧ p = nextSend s.cfg.cycle c)

/-- The send state that follows a failed exchange (R244). -/
def FailsTo (s : State) (p : SendState) : Prop :=
  (s.cfg.recovery = .fallbackQuery ∧ p = s.pending.getD .sendQuery) ∨ (s.cfg.recovery = .advance ∧ SucceedsTo s p)

/-- `t` follows `s` by a failed receive step: the FIFO drained into the receive buffer, this one record logged, the next
state `p`, the pending slot empty, and nothing else changed (45_sequencer.md R239, R240, R244). -/
def ExchangeFailed (p : SendState) (r : LogRecord) (s t : State) : Prop :=
  t = { s with
    rx := t.rx
    rxCount := if s.rxFifo.length < 255 then BitVec.ofNat 8 s.rxFifo.length else 255
    rxFifo := []
    out := s.out ++ [.log r]
    state := .send p
    pending := none } ∧
  ∀ a, Memory.read t.rx a = if a < 32 ∧ a < s.rxFifo.length then s.rxFifo.getD a 0 else Memory.read s.rx a

/-- The state after `request(S)` (R246). -/
def Requested (s : State) (target : SendState) (t : State) : Prop :=
  (s.state = .awaiting ∧ t = { s with pending := some target }) ∨
  (s.state ≠ .awaiting ∧ t = { s with state := .send target })

/-- The window closes in the next `MS` over a FIFO that holds this valid receive frame, whose content is routed to the
interpreter (R233, R241). -/
def RoutesNext (s : State) (i : Instr) : Prop :=
  decodeTransaction s.cfg s.fetch = .ok .ms ∧ s.winArmed = true ∧ s.winCtr = 1 ∧ s.lastSent ≠ some .set ∧
    decodeRx s.cfg s.rxFifo = .ok i

/-- Nothing waits at any port, so that every step is `MS`. -/
def State.noInput (s : State) : Prop := s.inbox = []

/-- The frames among a list of outputs. -/
def framesOf : List Output → List (List Byte)
  | [] => []
  | .txWrite f :: rest => f :: framesOf rest
  | .txFlush :: rest => framesOf rest
  | .publish _ :: rest => framesOf rest
  | .notify :: rest => framesOf rest
  | .log _ :: rest => framesOf rest

/-- The log records among a list of outputs. -/
def logsOf : List Output → List LogRecord
  | [] => []
  | .txWrite _ :: rest => logsOf rest
  | .txFlush :: rest => logsOf rest
  | .publish _ :: rest => logsOf rest
  | .notify :: rest => logsOf rest
  | .log r :: rest => r :: logsOf rest

/-- A run of `k` steps that neither faults nor is refused, and where it ends. -/
def reaches (k : Nat) (s t : State) : Prop := Host.Core.run Sys2Proof.core k s = .next t

end Sys2Proof.Machine
end

