-- ==== Sys2Proof/Certificates/Slice0/Obligations.lean ====
section
/-! DEFINITION. The statements for the provers. Each says what a rule of spec/ says of the machine; a docstring names the rules, and names the log entry where a clause is the model's choice. -/

open Sys2Proof Sys2Proof.Machine

/-! ## Encoding -/

/-- Decoding the encoding of a well-formed instruction gives it back, for every instruction and every admitted
configuration (30_encoding.md R80-R93, R107; 10_state.md R38). -/
def Obligations.DecodeOfEncodeIsIdentity : Prop :=
  ∀ (cfg : Config) (i : Instr), cfg.wf = true → i.wf cfg = true → decode cfg (encode cfg i) = .ok i

/-- Bytes that decode are exactly the encoding of what they decode to: no two frames are one instruction
(30_encoding.md R80-R94; a transmit frame is decoded strictly, DESIGN CHOICE of entry 13). -/
def Obligations.DecodedFramesAreEncodings : Prop :=
  (∀ (cfg : Config) (f : List Byte) (i : Instr), decodeTx cfg f = .ok i →
    encode cfg i = .txFrame f ∧ i.wf cfg = true) ∧
  (∀ (cfg : Config) (f : List Byte) (i : Instr), decodeRx cfg f = .ok i →
    encode cfg i = .rxFrame f ∧ i.wf cfg = true)

/-- The three checksum laws (41_codec.md R122). -/
def Obligations.ChecksumLaws : Prop :=
  (∀ (f : List Byte) (k : Nat), checksum f k = ~~~(sum8 f k) &&& 0xFF) ∧
  (∀ (f : List Byte) (k : Nat), k < f.length →
    (f.getD k 0 = checksum f k ↔ ((sum8 f k).toNat + (f.getD k 0).toNat) % 256 = 0xFF) ∧
    (f.getD k 0 = checksum f k ↔ (f.map BitVec.toNat).sum % 256 = 0xFF)) ∧
  (∀ n : Nat, ((0xFF : Int) - n) % 256 = 0xFF - (n : Int) % 256)

/-- Round trip and error detection of receive frames: every frame built by `encode_rx` decodes to its code, header and
payload; flipping any one bit of a valid frame makes it invalid; two errors can cancel (41_codec.md R126). -/
def Obligations.ReceiveFramesRoundTripAndDetectOneBitErrors : Prop :=
  (∀ (cfg : Config) (code : Byte) (hdr q : List Byte), hdr.length = 4 → q.length = 24 →
    decodeRx cfg (encodeRx code hdr q) = .ok
      (match cmdOfCode cfg code with
       | some .query => .rQuery hdr q
       | some .queryExt => .rQueryExt hdr q
       | some .set => .rSet hdr q
       | some .followMe => .rFollowMe hdr q
       | none => .rUnknown code hdr q)) ∧
  (∀ (cfg : Config) (f : List Byte) (i : Instr) (k j : Nat), decodeRx cfg f = .ok i → k < 32 → j < 8 →
    ∃ e, decodeRx cfg (f.set k (f.getD k 0 ^^^ BitVec.twoPow 8 j)) = .error e ∧
      (k = 0 → e = .badPreamble (f.getD 0 0 ^^^ BitVec.twoPow 8 j)) ∧
      (k = 31 → e = .badMarker (f.getD 31 0 ^^^ BitVec.twoPow 8 j)) ∧
      (k ≠ 0 → k ≠ 31 → ∃ a b, e = .badChecksum a b)) ∧
  (∃ (f : List Byte) (a b : Byte), ∀ cfg : Config, (∃ i, decodeRx cfg f = .ok i) ∧
    a ≠ f.getD 10 0 ∧ b ≠ f.getD 11 0 ∧ ∃ i, decodeRx cfg ((f.set 10 a).set 11 b) = .ok i)

/-- Words written out from the spec's own frames decode to the instructions they stand for
(95_test_vectors.md L1-2, L2-5; 43_frames.md R181-R188). -/
def Obligations.SpecFramesDecode : Prop :=
  decodeTx Config.ref [0xAA, 0xC0, 0, 0, 0, 0, 0, 0, 0, 0, 0, 0, 0, 0, 0x40, 0x55] = .ok .query ∧
  decodeTx Config.ref [0xAA, 0xC4, 0, 0, 0, 0, 0, 0, 0, 0, 0, 0, 0, 0, 0x3C, 0x55] = .ok .queryExt ∧
  decodeTx Config.ref [0xAA, 0xC3, 0, 0, 0, 0, 0x84, 0x04, 0x64, 0x06, 0, 0, 0, 0, 0x4B, 0x55] =
    .ok (.set .heat .low 0x64 true .boost) ∧
  decodeTx Config.ref [0xAA, 0xC6, 0, 0, 0, 0, 0, 0, 0x56, 0, 0x06, 0, 0, 0, 0xDE, 0x55] = .ok (.fmInit 0x56) ∧
  decodeTx Config.ref [0xAA, 0xC6, 0, 0, 0, 0, 0, 0, 0, 0, 0x04, 0x09, 0, 0, 0x2D, 0x55] = .ok (.fmStatic 9) ∧
  decodeRx Config.ref ([0xAA, 0xC3, 0x5A, 0xA5] ++ List.replicate 26 0 ++ [0x3E, 0x55]) =
    .ok (.rSet [0x5A, 0xA5, 0, 0] (List.replicate 24 0)) ∧
  decodeRx Config.ref ([0xAA, 0x12] ++ List.replicate 28 0 ++ [0xEE, 0x55]) =
    .ok (.rUnknown 0x12 [0, 0, 0, 0] (List.replicate 24 0))

/-! ## Value transforms -/

/-- The temperature laws: exact round trip of every byte, and an error of at most a quarter degree, so at most half a
degree on 17 to 30 (41_codec.md R130). -/
def Obligations.TemperatureTransformIsHalfDegreeExact : Prop :=
  (∀ b : Byte, fromCelsius (toCelsius b) = some b) ∧
  (∀ (c : Rat) (r : Byte), fromCelsius c = some r → |toCelsius r - c| ≤ 1 / 4) ∧
  (∀ c : Rat, 17 ≤ c → c ≤ 30 → ∃ r, fromCelsius c = some r ∧ |toCelsius r - c| ≤ 1 / 2)

/-- Every rounded value outside a byte, and only such, is unencodable (41_codec.md R129): a temperature encodes exactly
when twice it plus 40 lies above -1/2 and below 255.5. -/
def Obligations.TemperatureEncodesExactlyInRange : Prop :=
  ∀ c : Rat, (∃ r, fromCelsius c = some r) ↔ -1 / 2 < 2 * c + 40 ∧ 2 * c + 40 < 511 / 2

/-- The timer law under `REFCFG` (41_codec.md R134). -/
def Obligations.TimerBucketsRoundTrip : Prop :=
  ∀ n : Nat, n % 15 = 0 → n ≤ 1905 → timerDecode Config.ref (timerEncode Config.ref n) = n

/-- The mapper laws under every admitted configuration (42_mapper.md R164). -/
def Obligations.MapperLaws : Prop :=
  ∀ cfg : Config, cfg.wf = true →
    (∀ m : Mode, m ≠ .off → correctedMode cfg (encodeMode cfg m) = some m) ∧
    (cfg.modeCode.off &&& cfg.autoAux = 0 → correctedMode cfg (encodeMode cfg .off) = some .off) ∧
    (Config.ref.modeCode.off &&& Config.ref.autoAux = 0) ∧
    (∀ f : Fan, decodeFan cfg (encodeFan cfg f) = some f) ∧
    (∀ (sw : Bool) (p : Preset),
      decodeSwing cfg (encodeFlags cfg sw p) = sw ∧ decodePreset cfg (encodeFlags cfg sw p) = p) ∧
    (cfg.tempUnit = .celsius → ∀ b : Byte, ∃ k : Int, targetFromRaw cfg b = k / 2)

/-- The mapper's tables and bits: modes and fan modes are read and written by the configuration's tables; a raw mode byte
that decodes to OFF with the auxiliary bit set gives AUTO, and any other what it decodes to; swing is the swing bit;
auxiliary heat gives BOOST and wins over eco, which gives SLEEP; the encoded byte sets exactly the bits
that are due (42_mapper.md R150-R157). -/
def Obligations.MapperReadsItsTablesAndBits : Prop :=
  ∀ cfg : Config,
    (∀ raw, decodeMode cfg raw = lookupCode cfg.modeDecode raw) ∧
    (∀ raw : Byte,
      (decodeMode cfg raw = some .off → raw &&& cfg.autoAux ≠ 0 → correctedMode cfg raw = some .auto) ∧
      (decodeMode cfg raw ≠ some .off ∨ raw &&& cfg.autoAux = 0 → correctedMode cfg raw = decodeMode cfg raw)) ∧
    (∀ raw, decodeFan cfg raw = lookupCode cfg.fanDecode raw) ∧
    (encodeMode cfg .off = cfg.modeCode.off ∧ encodeMode cfg .auto = cfg.modeCode.auto ∧
      encodeMode cfg .fan = cfg.modeCode.fan ∧ encodeMode cfg .dry = cfg.modeCode.dry ∧
      encodeMode cfg .heat = cfg.modeCode.heat ∧ encodeMode cfg .cool = cfg.modeCode.cool) ∧
    (encodeFan cfg .off = cfg.fanCode.off ∧ encodeFan cfg .auto = cfg.fanCode.auto ∧
      encodeFan cfg .low = cfg.fanCode.low ∧ encodeFan cfg .medium = cfg.fanCode.medium ∧
      encodeFan cfg .high = cfg.fanCode.high) ∧
    (∀ fl : Byte, decodeSwing cfg fl = true ↔ fl &&& cfg.swingMask ≠ 0) ∧
    (∀ fl : Byte,
      (fl &&& cfg.auxHeatMask ≠ 0 → decodePreset cfg fl = .boost) ∧
      (fl &&& cfg.auxHeatMask = 0 → fl &&& cfg.ecoMask ≠ 0 → decodePreset cfg fl = .sleep) ∧
      (fl &&& cfg.auxHeatMask = 0 → fl &&& cfg.ecoMask = 0 → decodePreset cfg fl = .none)) ∧
    (∀ (sw : Bool) (p : Preset) (k : Nat), k < 8 →
      ((encodeFlags cfg sw p).getLsbD k = true ↔
        (sw = true ∧ cfg.swingMask.getLsbD k = true) ∨ (p = .boost ∧ cfg.auxHeatMask.getLsbD k = true) ∨
          (p = .sleep ∧ cfg.ecoMask.getLsbD k = true)))

/-- The two 16-bit words of a query response: under `LE` the byte at the offset is the low one, under `BE` the high one,
on the payload of any receive frame (20_memory.md R63; 41_codec.md R136). -/
def Obligations.FlagWordsFollowTheWordOrder : Prop :=
  ∀ (cfg : Config) (q : List Byte) (o : Nat), 6 ≤ o →
    (cfg.wordOrder = .le →
      (wordAt cfg q o).toNat = (q.getD (o - 6 + 1) 0).toNat * 256 + (q.getD (o - 6) 0).toNat) ∧
    (cfg.wordOrder = .be →
      (wordAt cfg q o).toNat = (q.getD (o - 6) 0).toNat * 256 + (q.getD (o - 6 + 1) 0).toNat)

/-- `timer_decode` adds the minutes of the buckets whose bits are set; a bit without a bucket adds nothing
(41_codec.md R132). -/
def Obligations.TimerDecodeSumsItsBuckets : Prop :=
  ∀ (cfg : Config) (b : Byte),
    timerDecode cfg b =
      ((List.range 8).map fun k => if b.getLsbD k then (cfg.timerBuckets.toList.getD k none).getD 0 else 0).sum

/-! ## Transmit frames -/

/-- `QUERY` and `QUERY_EXT` are sent with a zero payload, and nothing but the exchange's registers and the transmit
buffer changes (43_frames.md R181, R182; 45_sequencer.md R237; 30_encoding.md R80, R87, R88). -/
def Obligations.QueryFramesAreSent : Prop :=
  ∀ s : State, s.cfg.wf = true → s.BuffersWf →
    (∃ t, exec .query s = .next t ∧ SentFrame .query (List.replicate 8 0) s s t) ∧
    (∃ t, exec .queryExt s = .next t ∧ SentFrame .queryExt (List.replicate 8 0) s s t)

/-- `SET` is sent with the payload of its fields, timers zero (43_frames.md R183; 30_encoding.md R89). -/
def Obligations.SetFrameIsSent : Prop :=
  ∀ (s : State) (m : Mode) (f : Fan) (temp : Byte) (sw : Bool) (pr : Preset), s.cfg.wf = true → s.BuffersWf →
    ∃ p t, IsSetPayload s.cfg m f temp sw pr p ∧ exec (.set m f temp sw pr) s = .next t ∧ SentFrame .set p s s t

/-- `FM_INIT` and `FM_UPDATE` are sent: the reading is reported, the change trigger disarmed, the period restarted; and
`FM_INIT` alone initializes the session (43_frames.md R185, R186, R189; 30_encoding.md R86, R90). In a state whose
`fm_kind` is the static-pressure kind, which no builder of these two frames answers in, that the frame and not the
register chooses the effects is the model's choice (entry 15). -/
def Obligations.FollowMeTemperatureFramesAreSent : Prop :=
  ∀ (s : State) (temp : Byte), s.cfg.wf = true → s.BuffersWf →
    (∃ p t, IsFmPayload s.cfg 0x06 temp 0x00 p ∧ exec (.fmInit temp) s = .next t ∧
      SentFrame .followMe p s
        { s with fmInit := true, fmLastReported := s.remote, fmChgArmed := false, fmLastMs := s.nowMs } t) ∧
    (∃ p t, IsFmPayload s.cfg 0x02 temp 0x00 p ∧ exec (.fmUpdate temp) s = .next t ∧
      SentFrame .followMe p s { s with fmLastReported := s.remote, fmChgArmed := false, fmLastMs := s.nowMs } t)

/-- `FM_STATIC` is sent with the value in the low nibble, once (43_frames.md R188, R189; 30_encoding.md R86, R90). In a
state whose `fm_kind` is the temperature kind, which no builder of this frame answers in, that the frame and not the
register chooses the effects is the model's choice (entry 15). -/
def Obligations.StaticPressureFrameIsSentOnce : Prop :=
  ∀ (s : State) (sp : U4), s.cfg.wf = true → s.BuffersWf →
    ∃ p t, IsFmPayload s.cfg 0x04 0x00 (sp.setWidth 8) p ∧ exec (.fmStatic sp) s = .next t ∧
      SentFrame .followMe p s { s with fmKind := .temp, fmLastMs := s.nowMs } t

/-- The set builder: an incomplete snapshot skips, an unencodable target skips, otherwise the snapshot's fields are the
frame's (43_frames.md R183, R184). -/
def Obligations.SetBuilderReadsTheSnapshot : Prop :=
  ∀ s : State,
    (s.snap.complete = false → build s .sendSet = .skip .snapshotIncomplete) ∧
    (∀ (m : Mode) (f : Fan) (c : Rat) (sw : Bool) (pr : Preset),
      s.snap.mode = some m → s.snap.fan = some f → s.snap.target = some c → s.snap.swing = some sw →
      s.snap.preset = some pr →
      (targetToRaw s.cfg (some c) = none → build s .sendSet = .skip .tempRange) ∧
      (∀ raw, targetToRaw s.cfg (some c) = some raw → build s .sendSet = .send (.set m f raw sw pr)))

/-- The follow-me builder: suppressed while the mode is OFF or unknown, silent without a reading, `FM_INIT` before the
session is initialized and `FM_UPDATE` after; a static-pressure request sends its value whatever the mode
(43_frames.md R185-R188). -/
def Obligations.FollowMeBuilderChoosesTheFrame : Prop :=
  ∀ s : State,
    (s.fmKind = .staticPressure → build s .sendFollowMe = .send (.fmStatic s.fmSp)) ∧
    (s.fmKind = .temp → (s.snap.mode = none ∨ s.snap.mode = some .off) → build s .sendFollowMe = .skip .suppressed) ∧
    (s.fmKind = .temp → (∃ m, s.snap.mode = some m ∧ m ≠ .off) →
      (s.remote = none → build s .sendFollowMe = .skip .noReading) ∧
      (∀ c, s.remote = some c →
        (fromCelsius c = none → build s .sendFollowMe = .skip .tempRange) ∧
        (∀ raw, fromCelsius c = some raw →
          (s.fmInit = false → build s .sendFollowMe = .send (.fmInit raw)) ∧
          (s.fmInit = true → build s .sendFollowMe = .send (.fmUpdate raw)))))

/-! ## Steps and sub-steps -/

/-- A step runs the instruction that the waiting transaction is, with that transaction taken from the queue; where none
waits it runs `MS` (10_state.md R39, R41; the queue is the model's, DESIGN CHOICE of entry 5). A temperature that stands
on its port in the realisation's own format reaches the block as what `TEMP_FMT` maps it to (00_scope.md R11; decision
D9; where the format is named is the model's choice, entry 17). -/
def Obligations.StepRunsTheWaitingTransaction : Prop :=
  (∀ (s : State) (i : Instr) (tr : Transaction) (rest : List Transaction), s.inbox = tr :: rest →
    encode s.cfg i = .transaction tr → step s = exec i { s with inbox := rest }) ∧
  (∀ s : State, s.inbox = [] → step s = exec .ms s) ∧
  (∀ (s : State) (w : Nat) (rest : List Transaction), s.inbox = ⟨.sensor, .remoteTemp (.formatted w)⟩ :: rest →
    step s = exec (.remoteTemp (Config.tempOfPort s.cfg.tempFmt w)) { s with inbox := rest }) ∧
  (∀ (s : State) (m : Option Mode) (w : Nat) (f : Option Fan) (sw : Option Bool) (p : Option Preset)
      (rest : List Transaction), s.inbox = ⟨.host, .control ⟨m, .formatted w, f, sw, p⟩⟩ :: rest →
    step s = exec (.control ⟨m, Config.tempOfPort s.cfg.tempFmt w, f, sw, p⟩) { s with inbox := rest })

/-- The four sub-steps of `MS` in their order, all in the one event: time, then the response window, then the scheduler,
then the tick, each on the state the one before left (45_sequencer.md R231). That a window which stops the machine stops
`MS` the same way is the model's choice (entry 10), since R231 knows no such stop. -/
def Obligations.MillisecondRunsItsSubstepsInOrder : Prop :=
  ∀ s : State, s.cfg.wf = true →
    exec .ms s =
      match State.window { s with nowMs := s.nowMs + 1 } with
      | .next w => State.tick (State.schedule w)
      | .fault r => .fault r
      | .refused r => .refused r

/-- The tick that finds a send state runs the frame its builder chose, and the builders of the two query states choose
`QUERY` and `QUERY_EXT` in every state (45_sequencer.md R235-R237; 43_frames.md R181, R182). -/
def Obligations.TickRunsTheBuiltFrame : Prop :=
  (∀ (s : State) (target : SendState) (i : Instr), s.tickCtr + 1 = s.cfg.tickMs → s.state = .send target →
    build { s with tickCtr := 0 } target = .send i → s.tick = exec i { s with tickCtr := 0 }) ∧
  (∀ s : State, build s .sendQuery = .send .query ∧ build s .sendQueryExt = .send .queryExt)

/-- The close of the window over a valid frame runs that frame on the drained state: FIFO empty, the 32 bytes in the
receive buffer, the count 32 (45_sequencer.md R233, R239-R241). -/
def Obligations.WindowRunsTheReceivedFrame : Prop :=
  ∀ (s : State) (i : Instr), s.BuffersWf → s.winArmed = true → s.winCtr = 1 → decodeRx s.cfg s.rxFifo = .ok i →
    ∃ d : State,
      d = { s with rx := d.rx, rxCount := 32, rxFifo := [], winArmed := false, winCtr := 0 } ∧
      (∀ a, a < 32 → Memory.read d.rx a = s.rxFifo.getD a 0) ∧
      (∀ a, 32 ≤ a → Memory.read d.rx a = Memory.read s.rx a) ∧
      s.window = exec i d

/-- `MS` completes in every state in which an armed window has its command, counts one millisecond, and leaves the
configuration, the reading held, the change deadline, the static-pressure value and the waiting inputs alone; it never
ends a session (45_sequencer.md R231-R244). -/
def Obligations.MillisecondCompletes : Prop :=
  ∀ s : State, s.cfg.wf = true → (s.winArmed = true → s.lastSent ≠ none) →
    ∃ t, exec .ms s = .next t ∧ t.nowMs = s.nowMs + 1 ∧ t.cfg = s.cfg ∧ t.cfgIn = s.cfgIn ∧ t.remote = s.remote ∧
      t.fmChgDeadline = s.fmChgDeadline ∧ t.fmSp = s.fmSp ∧ t.inbox = s.inbox ∧ (s.fmInit = true → t.fmInit = true) ∧
      ∃ added, t.out = s.out ++ added

/-- A millisecond in which the window does not close, no report is due and no tick falls changes only the counters
(45_sequencer.md R232, R233, R235). -/
def Obligations.QuietMillisecondOnlyCounts : Prop :=
  ∀ s : State, s.cfg.wf = true → (s.winArmed = true → s.winCtr ≠ 1) →
    (s.snap.mode = none ∨ s.snap.mode = some .off ∨ s.remote = none ∨
      (elapsed (s.nowMs + 1) s.fmLastMs < s.cfg.fmPeriodMs ∧
        (s.fmChgArmed = true → 0x80000000 ≤ elapsed (s.nowMs + 1) s.fmChgDeadline))) →
    s.tickCtr + 1 ≠ s.cfg.tickMs →
    exec .ms s = .next { s with
      nowMs := s.nowMs + 1
      tickCtr := s.tickCtr + 1
      winCtr := if s.winArmed then s.winCtr - 1 else s.winCtr }

/-- The follow-me scheduler: while a mode other than OFF and a reading are held, it fires when the period has passed or
an armed deadline is reached, restarts the period, disarms the trigger and requests a follow-me frame; otherwise it
changes nothing (45_sequencer.md R234, R246). -/
def Obligations.SchedulerFiresExactlyWhenDue : Prop :=
  ∀ (s : State),
    ((∃ m, s.snap.mode = some m ∧ m ≠ .off) ∧ s.remote ≠ none ∧
        (s.cfg.fmPeriodMs ≤ s.nowMs - s.fmLastMs ∨
          (s.fmChgArmed = true ∧ s.nowMs - s.fmChgDeadline < 0x80000000)) →
      Requested { s with fmLastMs := s.nowMs, fmChgArmed := false } .sendFollowMe s.schedule) ∧
    (¬ ((∃ m, s.snap.mode = some m ∧ m ≠ .off) ∧ s.remote ≠ none ∧
        (s.cfg.fmPeriodMs ≤ s.nowMs - s.fmLastMs ∨
          (s.fmChgArmed = true ∧ s.nowMs - s.fmChgDeadline < 0x80000000))) →
      s.schedule = s)

/-- A skipped send: no frame, no window, the state is `SEND_QUERY`; the two range and completeness reasons are logged,
the two silent ones are not (45_sequencer.md R251). -/
def Obligations.SkippedSendFallsBackToQuery : Prop :=
  ∀ (s : State) (target : SendState) (reason : SkipReason), s.tickCtr + 1 = s.cfg.tickMs → s.state = .send target →
    build { s with tickCtr := 0 } target = .skip reason →
    s.tick = .next { s with
      tickCtr := 0
      state := .send .sendQuery
      out := s.out ++
        (match reason with
         | .suppressed => []
         | .noReading => []
         | .tempRange => [.log (.tempRangeSkip target)]
         | .snapshotIncomplete => [.log (.snapshotIncomplete target)]) }

/-- A capture of any length but 32 is drained, logged and fails the exchange; no snapshot field and no telemetry item
changes; and this is what the close of the window over such a capture does (45_sequencer.md R233, R239, R240, R244;
60_exceptions.md R282). -/
def Obligations.WrongLengthCaptureFailsTheExchange : Prop :=
  ∀ (s : State) (p : SendState), s.BuffersWf → s.rxFifo.length ≠ 32 → FailsTo s p →
    (∃ t, s.receive = .next t ∧ ExchangeFailed p (.len s.rxFifo.length) s t) ∧
    (s.winArmed = true → s.winCtr = 1 →
      ∃ t, s.window = .next t ∧ ExchangeFailed p (.len s.rxFifo.length) { s with winArmed := false, winCtr := 0 } t)

/-- A 32-byte capture that fails a check is logged under the first check it fails (preamble, marker, checksum), fails
the exchange, and changes nothing but the receive buffer and the sequencer; and this is what the close of the window over
such a capture does (45_sequencer.md R233, R241, R244; 41_codec.md R125; 60_exceptions.md R283-R285). -/
def Obligations.InvalidFrameFailsTheExchange : Prop :=
  ∀ (s : State) (p : SendState) (r : LogRecord), s.BuffersWf → s.rxFifo.length = 32 → FailsTo s p →
    ((s.rxFifo.getD 0 0 ≠ 0xAA ∧ r = .preamble (s.rxFifo.getD 0 0)) ∨
     (s.rxFifo.getD 0 0 = 0xAA ∧ s.rxFifo.getD 31 0 ≠ 0x55 ∧ r = .marker (s.rxFifo.getD 31 0)) ∨
     (s.rxFifo.getD 0 0 = 0xAA ∧ s.rxFifo.getD 31 0 = 0x55 ∧ s.rxFifo.getD 30 0 ≠ checksum s.rxFifo 30 ∧
       r = .checksum (checksum s.rxFifo 30) (s.rxFifo.getD 30 0))) →
    (∃ t, s.receive = .next t ∧ ExchangeFailed p r s t) ∧
    (s.winArmed = true → s.winCtr = 1 →
      ∃ t, s.window = .next t ∧ ExchangeFailed p r { s with winArmed := false, winCtr := 0 } t)

/-! ## Receive frames -/

/-- A query response that is interpreted: each snapshot field, the forced refresh, the telemetry and the outputs in
order, then the next state; nothing else changes (44_interpreter.md R201-R211; 45_sequencer.md R242). -/
def Obligations.QueryResponseIsApplied : Prop :=
  ∀ (s : State) (hdr q : List Byte) (p : SendState), s.cfg.wf = true → s.lastSent ≠ some .set → SucceedsTo s p →
    ∃ snap : Snapshot,
      snap = {
        mode := match correctedMode s.cfg (payloadByte q s.cfg.rxq.mode) with
          | some m => some m
          | none => s.snap.mode
        fan := match decodeFan s.cfg (payloadByte q s.cfg.rxq.fan) with
          | some f => some f
          | none => s.snap.fan
        target :=
          if correctedMode s.cfg (payloadByte q s.cfg.rxq.mode) = some .off ∧ s.forceRefresh = false then s.snap.target
          else some (targetFromRaw s.cfg (payloadByte q s.cfg.rxq.target))
        swing := some (decodeSwing s.cfg (payloadByte q s.cfg.rxq.modeFlags))
        preset := some (decodePreset s.cfg (payloadByte q s.cfg.rxq.modeFlags))
        action := match computeAction s.cfg s.snap.mode q with
          | some a => some a
          | none => s.snap.action
        current := match s.cfg.currentSrc, s.remote with
          | .device, _ => some (toCelsius (payloadByte q s.cfg.rxq.t1))
          | .remote, some c => some c
          | .remote, none => s.snap.current } ∧
      exec (.rQuery hdr q) s = .next { s with
        snap := snap
        forceRefresh := false
        tel := { s.tel with
          coil1 := some (toCelsius (payloadByte q s.cfg.rxq.t2a))
          coil2 := some (toCelsius (payloadByte q s.cfg.rxq.t2b))
          coil3 := some (toCelsius (payloadByte q s.cfg.rxq.t3))
          currentDraw := some (payloadByte q s.cfg.rxq.current)
          timerStart := some (timerDecode s.cfg (payloadByte q s.cfg.rxq.tstart))
          timerStop := some (timerDecode s.cfg (payloadByte q s.cfg.rxq.tstop))
          errorFlags := some (wordAt s.cfg q s.cfg.rxq.err)
          protectFlags := some (wordAt s.cfg q s.cfg.rxq.prot)
          commError := some (payloadByte q s.cfg.rxq.commErr) }
        out := s.out ++
          (if correctedMode s.cfg (payloadByte q s.cfg.rxq.mode) = none then
            [.log (.unknownEnum .mode (payloadByte q s.cfg.rxq.mode))] else []) ++
          (if decodeFan s.cfg (payloadByte q s.cfg.rxq.fan) = none then
            [.log (.unknownEnum .fan (payloadByte q s.cfg.rxq.fan))] else []) ++
          ((queryReadings s.cfg q).filter fun r => !s.tel.holds r).map .publish ++
          (if snap = s.snap then [] else [.notify])
        state := .send p
        pending := none }

/-- The action table: only in HEAT does the heat flag decide, in AUTO the submasks in the order cooling, heating, fan,
and an unknown earlier mode leaves the action (42_mapper.md R158, R159). A query response that is interpreted takes the
action from this table at the mode held before it, whatever mode it brings (R159; 44_interpreter.md R205). -/
def Obligations.ActionFollowsTheEarlierMode : Prop :=
  (∀ (cfg : Config) (q : List Byte),
    (computeAction cfg (some .heat) q =
      some (if payloadByte q cfg.heatFlagOffset &&& cfg.heatFlagMask ≠ 0 then .heating else .idle)) ∧
    (payloadByte q cfg.rxq.mode &&& cfg.autoCool ≠ 0 → computeAction cfg (some .auto) q = some .cooling) ∧
    (payloadByte q cfg.rxq.mode &&& cfg.autoCool = 0 → payloadByte q cfg.rxq.mode &&& cfg.autoHeat ≠ 0 →
      computeAction cfg (some .auto) q = some .heating) ∧
    (payloadByte q cfg.rxq.mode &&& cfg.autoCool = 0 → payloadByte q cfg.rxq.mode &&& cfg.autoHeat = 0 →
      computeAction cfg (some .auto) q =
        some (if payloadByte q cfg.rxq.mode &&& cfg.autoFan ≠ 0 then .fan else .idle)) ∧
    computeAction cfg (some .cool) q = some .cooling ∧ computeAction cfg (some .fan) q = some .fan ∧
    computeAction cfg (some .dry) q = some .idle ∧ computeAction cfg (some .off) q = some .idle ∧
    computeAction cfg none q = none) ∧
  (∀ (s : State) (hdr q : List Byte) (p : SendState), s.cfg.wf = true → s.lastSent ≠ some .set → SucceedsTo s p →
    ∃ t, exec (.rQuery hdr q) s = .next t ∧
      (∀ a, computeAction s.cfg s.snap.mode q = some a → t.snap.action = some a) ∧
      (s.snap.mode = none → t.snap.action = s.snap.action))

/-- A query-extended response that is interpreted: outdoor temperature, static pressure, the optional target refresh,
the outputs in order, then the next state; nothing else changes (44_interpreter.md R212, R213, R210, R211). -/
def Obligations.QueryExtendedResponseIsApplied : Prop :=
  ∀ (s : State) (hdr q : List Byte) (p : SendState), s.cfg.wf = true → s.lastSent ≠ some .set → SucceedsTo s p →
    ∃ target : Temp,
      target = (if s.cfg.extTargetRefresh = true then some (targetFromRaw s.cfg (payloadByte q s.cfg.rxe.target))
        else s.snap.target) ∧
      exec (.rQueryExt hdr q) s = .next { s with
        snap := { s.snap with target := target }
        tel := { s.tel with
          outdoor := some (toCelsius (payloadByte q s.cfg.rxe.outdoor))
          staticPressure := some (BitVec.ofNat 4 ((payloadByte q s.cfg.rxe.sp).toNat % 16)) }
        out := s.out ++ ((queryExtReadings s.cfg q).filter fun r => !s.tel.holds r).map .publish ++
          (if target = s.snap.target then [] else [.notify])
        state := .send p
        pending := none }

/-- A valid response that echoes `SET` or `FOLLOW_ME` changes only the control state and the pending slot
(44_interpreter.md R214). -/
def Obligations.SetAndFollowMeResponsesOnlySequence : Prop :=
  ∀ (s : State) (hdr q : List Byte) (p : SendState), s.cfg.wf = true → SucceedsTo s p →
    exec (.rSet hdr q) s = .next { s with state := .send p, pending := none } ∧
    exec (.rFollowMe hdr q) s = .next { s with state := .send p, pending := none }

/-- A valid response with an unknown code, when the command sent was not `SET`, is logged with its code, is not
interpreted, and counts as a success (44_interpreter.md R215; 60_exceptions.md R286). -/
def Obligations.UnknownResponseIsLogged : Prop :=
  ∀ (s : State) (code : Byte) (hdr q : List Byte) (p : SendState), s.cfg.wf = true → s.lastSent ≠ some .set →
    SucceedsTo s p →
    exec (.rUnknown code hdr q) s =
      .next { s with out := s.out ++ [.log (.unknownResponse code)], state := .send p, pending := none }

/-- After a `SET` was sent, the content of no response is routed, whatever code it echoes (45_sequencer.md R241). -/
def Obligations.ResponseToSetIsNotInterpreted : Prop :=
  ∀ (s : State) (code : Byte) (hdr q : List Byte) (i : Instr) (p : SendState), s.cfg.wf = true →
    s.lastSent = some .set → SucceedsTo s p →
    (i = .rQuery hdr q ∨ i = .rQueryExt hdr q ∨ i = .rSet hdr q ∨ i = .rFollowMe hdr q ∨ i = .rUnknown code hdr q) →
    exec i s = .next { s with state := .send p, pending := none }

/-- The cycle table for both settings (45_sequencer.md R243). -/
def Obligations.CycleTable : Prop :=
  nextSend .poll .query = .sendQueryExt ∧ nextSend .poll .queryExt = .sendQuery ∧
  nextSend .poll .set = .sendFollowMe ∧ nextSend .poll .followMe = .sendQuery ∧
  nextSend .ring .query = .sendQueryExt ∧ nextSend .ring .queryExt = .sendSet ∧
  nextSend .ring .set = .sendFollowMe ∧ nextSend .ring .followMe = .sendQuery

/-- The model's choice (entry 10): a response with no pending command and no command in flight has no next state by
R242, and faults under its own name. -/
def Obligations.ResponseWithoutCommandFaults : Prop :=
  ∀ (s : State) (code : Byte) (hdr q : List Byte) (i : Instr), s.cfg.wf = true → s.lastSent = none → s.pending = none →
    (i = .rQuery hdr q ∨ i = .rQueryExt hdr q ∨ i = .rSet hdr q ∨ i = .rFollowMe hdr q ∨ i = .rUnknown code hdr q) →
    exec i s = .fault .noCommandInFlight

/-! ## Input events -/

/-- `RESET` under an admitted supplied configuration: every register at its reset value (the two buffers' contents are
unspecified, and left open here), the configuration latched, no output, the transport's FIFO untouched
(70_reset_and_hazards.md R310, R311, R314). -/
def Obligations.ResetSetsEveryRegister : Prop :=
  ∀ s : State, s.cfgIn.wf = true →
    ∃ t, exec .reset s = .next t ∧
      t = { t with
        cfg := s.cfgIn
        state := .send .sendQuery
        pending := none
        lastSent := none
        forceRefresh := true
        snap := ⟨none, none, none, none, none, none, none⟩
        tel := ⟨none, none, none, none, none, none, none, none, none, none, none⟩
        fmInit := false
        fmLastReported := none
        fmKind := .temp
        fmSp := 0
        remote := none
        fmLastMs := 0
        fmChgArmed := false
        fmChgDeadline := 0
        nowMs := 0
        tickCtr := 0
        winArmed := false
        winCtr := 0
        rxCount := 0
        rxFifo := s.rxFifo
        out := s.out }

/-- The state right after reset holds the reset values of the registers the spec gives them for, an empty FIFO, and
canonical buffers (70_reset_and_hazards.md R310; the configuration, the output stream and the input queue are the
model's choices, entries 2, 5, 7 and 20). -/
def Obligations.ResetStateIsTheSpecs : Prop :=
  State.reset.state = .send .sendQuery ∧ State.reset.pending = none ∧ State.reset.lastSent = none ∧
  State.reset.forceRefresh = true ∧ 
  State.reset.snap = ⟨none, none, none, none, none, none, none⟩ ∧
  State.reset.tel = ⟨none, none, none, none, none, none, none, none, none, none, none⟩ ∧
  State.reset.fmInit = false ∧ State.reset.fmLastReported = none ∧ State.reset.fmKind = .temp ∧
  State.reset.fmSp = 0 ∧ State.reset.remote = none ∧ State.reset.fmLastMs = 0 ∧ State.reset.fmChgArmed = false ∧
  State.reset.fmChgDeadline = 0 ∧ State.reset.nowMs = 0 ∧ State.reset.tickCtr = 0 ∧ State.reset.winArmed = false ∧
  State.reset.winCtr = 0 ∧ State.reset.rxCount = 0 ∧ State.reset.rxFifo = [] ∧ State.reset.cfg.wf = true ∧ State.reset.Inv ∧
  State.reset.BuffersWf ∧ State.reset.TimingWf ∧ State.reset.TargetEncodable

/-- A configuration that fails a check has no meaning: every instruction is refused under it, and `RESET` refuses to
latch it (30_encoding.md R95; 70_reset_and_hazards.md R311). That the range of the `HEAT_FLAG` offset is one of the checks
(entry 12), and that the transport agent's `RX` is refused with the block's events (entry 11), is the model's choice. -/
def Obligations.UnadmittedConfigurationIsRefused : Prop :=
  (∀ (s : State) (i : Instr), s.cfg.wf = false → i ≠ .reset → exec i s = .refused .configNotAdmitted) ∧
  (∀ s : State, s.cfgIn.wf = false → exec .reset s = .refused .configNotAdmitted)

/-- A control request whose target, if any, can be encoded: the present fields are merged unquantised, a changed mode
ends the follow-me session, `SEND_SET` is requested, and nothing else changes (45_sequencer.md R245, R246, R247). -/
def Obligations.ControlRequestIsMerged : Prop :=
  ∀ (s : State) (req : ControlReq), s.cfg.wf = true →
    (∀ c, req.target = some c → targetToRaw s.cfg (some c) ≠ none) →
    ∃ u t, exec (.control req) s = .next t ∧ Requested u .sendSet t ∧
      u = { s with
        snap := {
          mode := match req.mode with | some x => some x | none => s.snap.mode
          target := match req.target with | some x => some x | none => s.snap.target
          fan := match req.fan with | some x => some x | none => s.snap.fan
          swing := match req.swing with | some x => some x | none => s.snap.swing
          preset := match req.preset with | some x => some x | none => s.snap.preset
          action := s.snap.action
          current := s.snap.current }
        fmInit := if req.mode ≠ none ∧ req.mode ≠ s.snap.mode then false else s.fmInit }

/-- A control request whose target cannot be encoded is rejected whole: one record, no register changes
(45_sequencer.md R245; 60_exceptions.md R290). -/
def Obligations.UnencodableTargetRejectsTheRequest : Prop :=
  ∀ (s : State) (req : ControlReq) (c : Rat), s.cfg.wf = true → req.target = some c →
    targetToRaw s.cfg (some c) = none →
    exec (.control req) s = .next { s with out := s.out ++ [.log (.tempRangeRequest c)] }

/-- A static-pressure request of 0 to 15 while the mode is OFF is accepted: its value is kept, its kind set, a follow-me
frame requested, and nothing else changes (45_sequencer.md R248, R246). -/
def Obligations.StaticPressureIsAcceptedWhileOff : Prop :=
  ∀ (s : State) (v : Byte), s.cfg.wf = true → v.toNat ≤ 15 → s.snap.mode = some .off →
    ∃ t, exec (.staticPressure v) s = .next t ∧
      Requested { s with fmKind := .staticPressure, fmSp := BitVec.ofNat 4 v.toNat } .sendFollowMe t

/-- A static-pressure request above 15, and after that one while the mode is not known to be OFF, is rejected: one
record, no register changes (45_sequencer.md R248; 60_exceptions.md R288, R289). -/
def Obligations.StaticPressureIsRejectedOtherwise : Prop :=
  ∀ (s : State) (v : Byte), s.cfg.wf = true →
    (15 < v.toNat → exec (.staticPressure v) s = .next { s with out := s.out ++ [.log (.spRange v)] }) ∧
    (v.toNat ≤ 15 → s.snap.mode ≠ some .off →
      exec (.staticPressure v) s = .next { s with out := s.out ++ [.log (.spNotOff v)] })

/-- A reading equal to the one held changes nothing; a missing one is stored; a new one is stored and arms the change
trigger unless it is armed, when the earlier deadline stays (45_sequencer.md R249). -/
def Obligations.RemoteReadingIsStored : Prop :=
  ∀ (s : State) (x : Temp), s.cfg.wf = true →
    (x = s.remote → exec (.remoteTemp x) s = .next s) ∧
    (x ≠ s.remote → (x = none ∨ s.fmChgArmed = true) → exec (.remoteTemp x) s = .next { s with remote := x }) ∧
    (x ≠ s.remote → x ≠ none → s.fmChgArmed = false →
      exec (.remoteTemp x) s = .next { s with
        remote := x
        fmChgArmed := true
        fmChgDeadline := BitVec.ofNat 32 ((s.nowMs.toNat + s.cfg.fmChangeMs.toNat) % 2 ^ 32) })

/-- Received bytes join the transport's FIFO in arrival order and change no block register (45_sequencer.md R230;
10_state.md R42). -/
def Obligations.ReceivedBytesOnlyJoinTheFifo : Prop :=
  ∀ (s : State) (bytes : List Byte), s.cfg.wf = true →
    exec (.rx bytes) s = .next { s with rxFifo := s.rxFifo ++ bytes }

/-- While a response is awaited, a host or sensor event touches neither the exchange nor the bus; a control request
writes only the snapshot, the session flag, the pending slot and the log (45_sequencer.md R254). -/
def Obligations.NoEventPreemptsTheExchange : Prop :=
  ∀ (s t : State) (i : Instr), s.state = .awaiting →
    ((∃ req, i = .control req) ∨ (∃ v, i = .staticPressure v) ∨ (∃ x, i = .remoteTemp x)) → exec i s = .next t →
    (t.state = .awaiting ∧ t.lastSent = s.lastSent ∧ t.winArmed = s.winArmed ∧ t.winCtr = s.winCtr ∧
      t.tickCtr = s.tickCtr ∧ t.nowMs = s.nowMs ∧ t.tx = s.tx ∧ t.rx = s.rx ∧ t.rxFifo = s.rxFifo ∧
      framesOf t.out = framesOf s.out) ∧
    (∀ req, i = .control req →
      t = { s with snap := t.snap, fmInit := t.fmInit, pending := t.pending, out := t.out })

/-! ## The whole machine -/

/-- Every step keeps the four invariants (10_state.md R37; 45_sequencer.md R252). -/
def Obligations.StepKeepsTheInvariants : Prop :=
  ∀ s t : State, s.Inv → step s = .next t → t.Inv

/-- Every step keeps both buffers in canonical form (20_memory.md R60; the form is the model's). -/
def Obligations.StepKeepsTheBuffersCanonical : Prop :=
  ∀ s t : State, s.BuffersWf → step s = .next t → t.BuffersWf

/-- Every step keeps the clocks of an exchange in agreement (45_sequencer.md R233, R235, R237; 30_encoding.md R95). -/
def Obligations.StepKeepsTheExchangeTiming : Prop :=
  ∀ s t : State, s.Inv → s.TimingWf → step s = .next t → t.TimingWf

/-- A tick that finds `AWAITING` sends nothing and is not queued; under the invariants no `MS` runs such a tick
(45_sequencer.md R238). -/
def Obligations.TickNeverFindsAwaiting : Prop :=
  (∀ s : State, s.state = .awaiting → s.tickCtr + 1 = s.cfg.tickMs → s.tick = .next { s with tickCtr := 0 }) ∧
  (∀ s w : State, s.cfg.wf = true → s.Inv → s.TimingWf → State.window { s with nowMs := s.nowMs + 1 } = .next w →
    (State.schedule w).tickCtr + 1 = (State.schedule w).cfg.tickMs → (State.schedule w).state ≠ .awaiting)

/-- The configuration changes only by a `RESET`, which latches the supplied one (70_reset_and_hazards.md R311). That
nothing changes the supplied one is the model's choice (entry 1); that a step answers a next state only under an
admitted configuration is R311 with the checks of entries 11 and 12. -/
def Obligations.OnlyResetLatchesTheConfiguration : Prop :=
  ∀ s t : State, step s = .next t →
    t.cfgIn = s.cfgIn ∧ t.cfg.wf = true ∧
    (decodeTransaction s.cfg s.fetch = .ok .reset → t.cfg = s.cfgIn) ∧
    (decodeTransaction s.cfg s.fetch ≠ .ok .reset → t.cfg = s.cfg)

/-- The session flag is cleared, `RESET` apart, by an accepted control request whose mode field is present and differs
from the snapshot's, the unknown mode included, and by nothing else (45_sequencer.md R247). -/
def Obligations.OnlyAModeRequestEndsTheSession : Prop :=
  (∀ s t : State, step s = .next t → s.fmInit = true → t.fmInit = false →
    decodeTransaction s.cfg s.fetch = .ok .reset ∨
    ∃ req x, decodeTransaction s.cfg s.fetch = .ok (.control req) ∧ req.mode = some x ∧ s.snap.mode ≠ some x) ∧
  (∀ (s : State) (req : ControlReq) (x : Mode), s.cfg.wf = true → req.mode = some x → s.snap.mode ≠ some x →
    (∀ c, req.target = some c → targetToRaw s.cfg (some c) ≠ none) →
    ∃ t, exec (.control req) s = .next t ∧ t.fmInit = false)

/-- The snapshot is written only by `RESET`, by a control request, and by a query or query-extended response that is
routed; telemetry only by `RESET` and such a response; the forced refresh is never set but by `RESET`
(10_state.md R23, R25, R26). -/
def Obligations.SnapshotAndTelemetryHaveTheirWriters : Prop :=
  ∀ s t : State, s.BuffersWf → step s = .next t → decodeTransaction s.cfg s.fetch ≠ .ok .reset →
    (t.snap ≠ s.snap →
      (∃ req, decodeTransaction s.cfg s.fetch = .ok (.control req)) ∨
      (∃ hdr q, RoutesNext s (.rQuery hdr q)) ∨ (∃ hdr q, RoutesNext s (.rQueryExt hdr q))) ∧
    (t.tel ≠ s.tel → (∃ hdr q, RoutesNext s (.rQuery hdr q)) ∨ (∃ hdr q, RoutesNext s (.rQueryExt hdr q))) ∧
    (t.forceRefresh ≠ s.forceRefresh → t.forceRefresh = false ∧ ∃ hdr q, RoutesNext s (.rQuery hdr q))

/-- A snapshot field that is known stays known until the next `RESET` (60_exceptions.md R291; 10_state.md R24). -/
def Obligations.KnownSnapshotFieldsStayKnown : Prop :=
  ∀ s t : State, step s = .next t → decodeTransaction s.cfg s.fetch ≠ .ok .reset →
    (s.snap.mode ≠ none → t.snap.mode ≠ none) ∧ (s.snap.fan ≠ none → t.snap.fan ≠ none) ∧
    (s.snap.target ≠ none → t.snap.target ≠ none) ∧ (s.snap.swing ≠ none → t.snap.swing ≠ none) ∧
    (s.snap.preset ≠ none → t.snap.preset ≠ none) ∧ (s.snap.action ≠ none → t.snap.action ≠ none) ∧
    (s.snap.current ≠ none → t.snap.current ≠ none)

/-- Under `CELSIUS` every target the snapshot comes to hold can be encoded, so that no set is ever skipped for its
target (60_exceptions.md R290; 95_test_vectors.md L2-5e). -/
def Obligations.CelsiusTargetsStayEncodable : Prop :=
  (∀ s t : State, s.cfg.tempUnit = .celsius → s.TargetEncodable → step s = .next t → t.TargetEncodable) ∧
  (∀ s : State, s.TargetEncodable → build s .sendSet ≠ .skip .tempRange)

/-- The output stream only grows. Only an `MS` at which the tick falls transmits, it transmits one frame, that frame has
the layout, identifiers and checksum of the transmit format, and its exchange is then in flight (45_sequencer.md R236;
30_encoding.md R80, R81). -/
def Obligations.OnlyTicksTransmitAndFramesAreValid : Prop :=
  ∀ s t : State, s.BuffersWf → step s = .next t →
    (∃ added, t.out = s.out ++ added) ∧
    (framesOf t.out ≠ framesOf s.out →
      decodeTransaction s.cfg s.fetch = .ok .ms ∧ s.tickCtr + 1 = s.cfg.tickMs ∧ t.state = .awaiting ∧
      ∃ f c p, framesOf t.out = framesOf s.out ++ [f] ∧ IsTxFrame s.cfg c p f ∧ t.lastSent = some c)

/-! ## Runs -/

/-- From a reset under any admitted configuration, with no input: the first `TICK_MS - 1` events change only the
counters, and the `TICK_MS`-th sends `QUERY` (70_reset_and_hazards.md R312). -/
def Obligations.FirstTickAfterResetSendsQuery : Prop :=
  ∀ c : Config, c.wf = true →
    (∀ k, k < c.tickMs.toNat →
      reaches k (State.resetWith c)
        { State.resetWith c with nowMs := BitVec.ofNat 32 k, tickCtr := BitVec.ofNat 32 k }) ∧
    ∃ t f, reaches c.tickMs.toNat (State.resetWith c) t ∧ t.state = .awaiting ∧ t.lastSent = some .query ∧
      t.out = [.txWrite f, .txFlush] ∧ IsTxFrame c .query (List.replicate 8 0) f

/-- Every exchange ends when its window does: with no further input, the state is `AWAITING` for the command sent until
`win_ctr` milliseconds have passed, and leaves `AWAITING` in the last of them (45_sequencer.md R253;
70_reset_and_hazards.md R323). -/
def Obligations.EveryExchangeEndsWithItsWindow : Prop :=
  ∀ s : State, s.cfg.wf = true → s.Inv → s.TimingWf → s.noInput → s.state = .awaiting →
    (∀ k, k < s.winCtr.toNat → ∃ u, reaches k s u ∧ u.state = .awaiting ∧ u.lastSent = s.lastSent) ∧
    ∃ t, reaches s.winCtr.toNat s t ∧ t.state ≠ .awaiting ∧ t.lastSent = s.lastSent

/-- The block does not fall silent: with no input and no reading that the scheduler could report, a frame goes out
within two tick periods (70_reset_and_hazards.md R323). -/
def Obligations.AFrameGoesOutWithinTwoTicks : Prop :=
  ∀ s : State, s.cfg.wf = true → s.Inv → s.TimingWf → s.BuffersWf → s.noInput → s.remote = none →
    ∃ k t, k ≤ 2 * s.cfg.tickMs.toNat ∧ reaches k s t ∧ ∃ f, framesOf t.out = framesOf s.out ++ [f]
end

