-- ==== Sys2Proof/Laws/Codec.lean ====
section
/-! SUPPORT. The laws of the frame codec: what the checksum ignores, the bytes of an encoded frame, and what the block reads from its temperature ports. -/

namespace Sys2Proof

open Sys2Proof.Machine

/-- The checksum ignores the byte at its own index (41_codec.md R121). -/
theorem sumSkip_set : ∀ (f : List Byte) (k : Nat) (v : Byte), sumSkip (f.set k v) k = sumSkip f k := by
  intro f
  induction f with
  | nil => intros; rfl
  | cons b bs ih =>
    intro k v
    cases k with
    | zero => rfl
    | succ k => simp [sumSkip, ih]

theorem checksum_set (f : List Byte) (k : Nat) (v : Byte) : checksum (f.set k v) k = checksum f k := by
  simp [checksum, sum8, sumSkip_set]

/-- The exact sum of every byte is the checksum's sum and the skipped byte. -/
theorem sum_eq_sumSkip_add : ∀ (f : List Byte) (k : Nat), k < f.length →
    (f.map BitVec.toNat).sum = sumSkip f k + (f.getD k 0).toNat := by
  intro f
  induction f with
  | nil => intro k h; simp at h
  | cons b bs ih =>
    intro k h
    cases k with
    | zero => simp [sumSkip, Nat.add_comm]
    | succ k =>
      simp only [List.length_cons] at h
      have := ih k (by omega)
      simp only [List.map_cons, List.sum_cons, sumSkip, List.getD_cons_succ, this]
      omega

@[simp] theorem withChecksum_length (f : List Byte) (k : Nat) : (withChecksum f k).length = f.length := by
  simp [withChecksum]

/-- A frame built by putting in its checksum has a right checksum. -/
theorem withChecksum_getD_self (f : List Byte) (k : Nat) (h : k < f.length) :
    (withChecksum f k).getD k 0 = checksum (withChecksum f k) k := by
  rw [withChecksum, checksum_set]
  simp [h]

theorem withChecksum_getD_ne (f : List Byte) (k j : Nat) (h : j ≠ k) :
    (withChecksum f k).getD j 0 = f.getD j 0 := by
  simp [withChecksum, List.getD_eq_getElem?_getD, h.symm]

@[simp] theorem zero8_length : zero8.length = 8 := rfl

@[simp] theorem put_length (p : List Byte) (o : Nat) (v : Byte) : (put p o v).length = p.length := by simp [put]

@[simp] theorem setPayload_length (cfg : Config) (m : Mode) (f : Fan) (temp : Byte) (sw : Bool) (p : Preset) :
    (setPayload cfg m f temp sw p).length = 8 := by simp [setPayload]

@[simp] theorem fmPayload_length (cfg : Config) (sub temp sp : Byte) : (fmPayload cfg sub temp sp).length = 8 := by
  simp [fmPayload]

/-- A transmit frame's bytes before its checksum is put in. -/
def txBody (cfg : Config) (c : Cmd) (p : List Byte) : List Byte :=
  [preamble, codeOf cfg c] ++ cfg.txId.toList ++ p ++ [0x00, marker]

theorem encodeTx_eq (cfg : Config) (c : Cmd) (p : List Byte) : encodeTx cfg c p = withChecksum (txBody cfg c p) 14 := rfl

theorem encodeTx_length (cfg : Config) (c : Cmd) (p : List Byte) (h : p.length = 8) :
    (encodeTx cfg c p).length = 16 := by
  simp [encodeTx, h]

/-- A receive frame's bytes before its checksum is put in. -/
def rxBody (code : Byte) (hdr q : List Byte) : List Byte := [preamble, code] ++ hdr ++ q ++ [0x00, marker]

theorem encodeRx_eq (code : Byte) (hdr q : List Byte) : encodeRx code hdr q = withChecksum (rxBody code hdr q) 30 := rfl

theorem encodeRx_length (code : Byte) (hdr q : List Byte) (hh : hdr.length = 4) (hq : q.length = 24) :
    (encodeRx code hdr q).length = 32 := by
  simp [encodeRx, hh, hq]

/-- The bytes of an encoded transmit frame, by index (30_encoding.md R80). -/
theorem encodeTx_bytes (cfg : Config) (c : Cmd) (p : List Byte) (h : p.length = 8) :
    (encodeTx cfg c p).getD 0 0 = preamble ∧ (encodeTx cfg c p).getD 1 0 = codeOf cfg c ∧
    ((encodeTx cfg c p).drop 2).take 4 = cfg.txId.toList ∧ ((encodeTx cfg c p).drop 6).take 8 = p ∧
    (encodeTx cfg c p).getD 14 0 = checksum (encodeTx cfg c p) 14 ∧ (encodeTx cfg c p).getD 15 0 = marker := by
  have hid : cfg.txId.toList.length = 4 := by simp
  have hlen : (txBody cfg c p).length = 16 := by simp [txBody, h]
  refine ⟨?_, ?_, ?_, ?_, ?_, ?_⟩
  · rw [encodeTx_eq, withChecksum_getD_ne _ _ _ (by decide)]; rfl
  · rw [encodeTx_eq, withChecksum_getD_ne _ _ _ (by decide)]; rfl
  · rw [encodeTx_eq, withChecksum, List.drop_set, if_neg (by decide), List.take_set_of_le (by decide)]
    simp only [txBody, List.cons_append, List.nil_append, List.append_assoc, List.drop_succ_cons, List.drop_zero]
    rw [List.take_append_of_le_length (by omega), List.take_of_length_le (by omega)]
  · rw [encodeTx_eq, withChecksum, List.drop_set, if_neg (by decide), List.take_set_of_le (by decide)]
    simp only [txBody, List.cons_append, List.nil_append, List.append_assoc, List.drop_succ_cons]
    rw [List.drop_append_of_le_length (by omega), List.drop_of_length_le (by omega), List.nil_append,
      List.take_append_of_le_length (by omega), List.take_of_length_le (by omega)]
  · rw [encodeTx_eq]; exact withChecksum_getD_self _ _ (by omega)
  · rw [encodeTx_eq, withChecksum_getD_ne _ _ _ (by decide)]
    simp [txBody, List.getD_eq_getElem?_getD, h]

/-- The bytes of an encoded receive frame, by index (R82). -/
theorem encodeRx_bytes (code : Byte) (hdr q : List Byte) (hh : hdr.length = 4) (hq : q.length = 24) :
    (encodeRx code hdr q).getD 0 0 = preamble ∧ (encodeRx code hdr q).getD 1 0 = code ∧
    ((encodeRx code hdr q).drop 2).take 4 = hdr ∧ ((encodeRx code hdr q).drop 6).take 24 = q ∧
    (encodeRx code hdr q).getD 30 0 = checksum (encodeRx code hdr q) 30 ∧
    (encodeRx code hdr q).getD 31 0 = marker := by
  have hlen : (rxBody code hdr q).length = 32 := by simp [rxBody, hh, hq]
  refine ⟨?_, ?_, ?_, ?_, ?_, ?_⟩
  · rw [encodeRx_eq, withChecksum_getD_ne _ _ _ (by decide)]; rfl
  · rw [encodeRx_eq, withChecksum_getD_ne _ _ _ (by decide)]; rfl
  · rw [encodeRx_eq, withChecksum, List.drop_set, if_neg (by decide), List.take_set_of_le (by decide)]
    simp only [rxBody, List.cons_append, List.nil_append, List.append_assoc, List.drop_succ_cons, List.drop_zero]
    rw [List.take_append_of_le_length (by omega), List.take_of_length_le (by omega)]
  · rw [encodeRx_eq, withChecksum, List.drop_set, if_neg (by decide), List.take_set_of_le (by decide)]
    simp only [rxBody, List.cons_append, List.nil_append, List.append_assoc, List.drop_succ_cons]
    rw [List.drop_append_of_le_length (by omega), List.drop_of_length_le (by omega), List.nil_append,
      List.take_append_of_le_length (by omega), List.take_of_length_le (by omega)]
  · rw [encodeRx_eq]; exact withChecksum_getD_self _ _ (by omega)
  · rw [encodeRx_eq, withChecksum_getD_ne _ _ _ (by decide)]
    simp [rxBody, List.getD_eq_getElem?_getD, hh, hq]

/-- Both directions' shared checks pass exactly on a right preamble, marker and checksum (41_codec.md R125). -/
theorem checkFrame_ok_iff (f : List Byte) (cs mk : Nat) :
    checkFrame f cs mk = .ok () ↔
      f.getD 0 0 = preamble ∧ f.getD mk 0 = marker ∧ f.getD cs 0 = checksum f cs := by
  unfold checkFrame
  generalize f.getD 0 0 = a
  generalize f.getD mk 0 = b
  generalize f.getD cs 0 = c
  by_cases ha : a = preamble <;> by_cases hb : b = marker <;> by_cases hc : c = checksum f cs <;> simp [ha, hb, hc]

/-- A temperature that stands exact on its port reaches the block as it is (00_scope.md R11). -/
@[simp] theorem readPortTemp_exact (cfg : Config) (t : Temp) : readPortTemp cfg (.exact t) = t := rfl

/-- A word of the realisation's port format reaches the block as what `TEMP_FMT` maps it to (decision D9). -/
@[simp] theorem readPortTemp_formatted (cfg : Config) (w : Nat) :
    readPortTemp cfg (.formatted w) = Config.tempOfPort cfg.tempFmt w := rfl

/-- A request put on its port exactly reaches the block as it is. -/
@[simp] theorem readPortControl_portControl (cfg : Config) (req : ControlReq) :
    readPortControl cfg (portControl req) = req := rfl

/-- Every decode table stands for some function on bytes, and every function on bytes has a table (entry 3). -/
theorem lookupCode_general {α : Type} (g : Byte → Option α) :
    ∃ rows : List (CodeRow α), ∀ b, lookupCode rows b = g b := by
  have key : ∀ (bs : List Byte) (b : Byte),
      lookupCode (bs.filterMap fun x => (g x).map fun v => (⟨0xFF, x, v⟩ : CodeRow α)) b =
        if b ∈ bs then g b else none := by
    intro bs
    induction bs with
    | nil => intro b; simp [lookupCode]
    | cons x xs ih =>
      intro b
      have hff : b &&& 0xFF = b := by
        have : (0xFF : Byte) = BitVec.allOnes 8 := by decide
        rw [this, BitVec.and_allOnes]
      cases hx : g x with
      | none =>
        rw [List.filterMap_cons_none (by simp [hx]), ih]
        by_cases hb : b = x
        · subst hb; simp [hx]
        · simp [hb]
      | some v =>
        rw [List.filterMap_cons_some (b := ⟨0xFF, x, v⟩) (by simp [hx]), lookupCode, hff, ih]
        by_cases hb : b = x
        · subst hb; simp [hx]
        · simp [hb]
  refine ⟨_, fun b => (key ((List.range 256).map (BitVec.ofNat 8)) b).trans (if_pos ?_)⟩
  exact List.mem_map.mpr ⟨b.toNat, List.mem_range.mpr b.isLt, by simp⟩

end Sys2Proof
end

