-- ==== Sys2Proof/Laws/Memory.lean ====
section
/-! SUPPORT. The laws of the two buffers: reading after writing, the canonical form, and stores of whole frames. -/

namespace Sys2Proof.Machine

@[simp] theorem Memory.read_nil (a : Nat) : Memory.read [] a = Memory.unlisted := rfl

theorem Memory.read_cons (k : Nat) (v : Byte) (rest : Memory) (a : Nat) :
    Memory.read ((k, v) :: rest) a = if k = a then v else Memory.read rest a := rfl

/-- Canonical form from a higher bound is canonical form from a lower one. -/
theorem Memory.wfFrom_mono (size : Nat) : ∀ (m : Memory) (lo lo' : Nat), lo ≤ lo' →
    Memory.wfFrom size lo' m = true → Memory.wfFrom size lo m = true := by
  intro m
  cases m with
  | nil => intros; rfl
  | cons e rest =>
    intro lo lo' hle h
    simp only [Memory.wfFrom, Bool.and_eq_true, decide_eq_true_eq] at h ⊢
    exact ⟨⟨⟨by omega, h.1.1.2⟩, h.1.2⟩, h.2⟩

/-- Below the lowest listed address everything reads as unlisted. -/
theorem Memory.read_below (size : Nat) : ∀ (m : Memory) (lo a : Nat), Memory.wfFrom size lo m = true → a < lo →
    Memory.read m a = Memory.unlisted := by
  intro m
  induction m with
  | nil => intros; rfl
  | cons e rest ih =>
    intro lo a h hlt
    simp only [Memory.wfFrom, Bool.and_eq_true, decide_eq_true_eq] at h
    rw [Memory.read_cons, if_neg (by omega)]
    exact ih (e.1 + 1) a h.2 (by omega)

theorem Memory.read_entry (size : Nat) (rest : Memory) (k : Nat) (b : Byte) (a : Nat)
    (h : Memory.wfFrom size (k + 1) rest = true) :
    Memory.read (Memory.entry k b rest) a = if k = a then b else Memory.read rest a := by
  unfold Memory.entry
  split
  · next hb =>
    split
    · next hk => rw [Memory.read_below size rest (k + 1) a h (by omega), hb]
    · rfl
  · rfl

theorem Memory.wfFrom_entry (size lo : Nat) (rest : Memory) (k : Nat) (b : Byte) (hlo : lo ≤ k) (hk : k < size)
    (h : Memory.wfFrom size (k + 1) rest = true) : Memory.wfFrom size lo (Memory.entry k b rest) = true := by
  unfold Memory.entry
  split
  · exact Memory.wfFrom_mono size rest lo (k + 1) (by omega) h
  · next hb => simp [Memory.wfFrom, hlo, hk, h, hb]

/-- What one write does: it keeps the canonical form. -/
theorem Memory.wfFrom_write (size : Nat) : ∀ (m : Memory) (lo a : Nat) (b : Byte), lo ≤ a → a < size →
    Memory.wfFrom size lo m = true → Memory.wfFrom size lo (Memory.write m a b) = true := by
  intro m
  induction m with
  | nil => intro lo a b hlo ha _; exact Memory.wfFrom_entry size lo [] a b hlo ha rfl
  | cons e rest ih =>
    obtain ⟨k, v⟩ := e
    intro lo a b hlo ha h
    have h' := h
    simp only [Memory.wfFrom, Bool.and_eq_true, decide_eq_true_eq] at h
    unfold Memory.write
    split
    · exact Memory.wfFrom_entry size lo _ a b hlo ha (by
        simp only [Memory.wfFrom, Bool.and_eq_true, decide_eq_true_eq]
        exact ⟨⟨⟨by omega, h.1.1.2⟩, h.1.2⟩, h.2⟩)
    · split
      · next hk => exact Memory.wfFrom_entry size lo _ a b hlo ha (hk ▸ h.2)
      · simp only [Memory.wfFrom, Bool.and_eq_true, decide_eq_true_eq]
        exact ⟨h.1, ih (k + 1) a b (by omega) ha h.2⟩

/-- What one write does: the cell reads as the byte written, every other cell as before. -/
theorem Memory.read_write (size : Nat) : ∀ (m : Memory) (lo a : Nat) (b : Byte) (x : Nat),
    Memory.wfFrom size lo m = true →
    Memory.read (Memory.write m a b) x = if a = x then b else Memory.read m x := by
  intro m
  induction m with
  | nil =>
    intro lo a b x _
    exact Memory.read_entry size [] a b x rfl
  | cons e rest ih =>
    obtain ⟨k, v⟩ := e
    intro lo a b x h
    simp only [Memory.wfFrom, Bool.and_eq_true, decide_eq_true_eq] at h
    unfold Memory.write
    split
    · rw [Memory.read_entry size]
      simp only [Memory.wfFrom, Bool.and_eq_true, decide_eq_true_eq]
      exact ⟨⟨⟨by omega, h.1.1.2⟩, h.1.2⟩, h.2⟩
    · split
      · next hk =>
        rw [Memory.read_entry size rest a b x (hk ▸ h.2), Memory.read_cons, hk]
        split <;> rfl
      · next hk =>
        rw [Memory.read_cons, ih (k + 1) a b x h.2, Memory.read_cons]
        split <;> split <;> first | rfl | omega

theorem Memory.wf_write (size : Nat) (m : Memory) (a : Nat) (b : Byte) (ha : a < size) (h : Memory.wf size m = true) :
    Memory.wf size (Memory.write m a b) = true :=
  Memory.wfFrom_write size m 0 a b (Nat.zero_le a) ha h

/-- A store of bytes keeps the canonical form where it stays inside the buffer. -/
theorem Memory.wf_store (size : Nat) : ∀ (bs : List Byte) (m : Memory) (a : Nat), a + bs.length ≤ size →
    Memory.wf size m = true → Memory.wf size (Memory.store m a bs) = true := by
  intro bs
  induction bs with
  | nil => intro m a _ h; exact h
  | cons b bs ih =>
    intro m a hl h
    simp only [List.length_cons] at hl
    exact ih _ (a + 1) (by omega) (Memory.wf_write size m a b (by omega) h)

/-- What a store of bytes does: the cells it covers read as its bytes, every other cell as before. -/
theorem Memory.read_store (size : Nat) : ∀ (bs : List Byte) (m : Memory) (a x : Nat), a + bs.length ≤ size →
    Memory.wf size m = true →
    Memory.read (Memory.store m a bs) x = if a ≤ x ∧ x < a + bs.length then bs.getD (x - a) 0 else Memory.read m x := by
  intro bs
  induction bs with
  | nil => intro m a x _ _; simp [Memory.store]
  | cons b bs ih =>
    intro m a x hl h
    simp only [List.length_cons] at hl ⊢
    rw [Memory.store, ih _ (a + 1) x (by omega) (Memory.wf_write size m a b (by omega) h),
      Memory.read_write size m 0 a b x h]
    by_cases hx : a = x
    · subst hx; simp
    · by_cases hin : a + 1 ≤ x ∧ x < a + 1 + bs.length
      · rw [if_pos hin, if_pos (by omega), show x - a = (x - (a + 1)) + 1 by omega, List.getD_cons_succ]
      · rw [if_neg hin, if_neg hx, if_neg (by omega)]

@[simp] theorem Memory.load_length (m : Memory) : ∀ (n a : Nat), (Memory.load m a n).length = n := by
  intro n
  induction n with
  | zero => intro a; rfl
  | succ n ih => intro a; simp [Memory.load, ih]

theorem Memory.load_getD (m : Memory) : ∀ (n a k : Nat), k < n → (Memory.load m a n).getD k 0 = Memory.read m (a + k) := by
  intro n
  induction n with
  | zero => intro a k h; omega
  | succ n ih =>
    intro a k h
    cases k with
    | zero => rfl
    | succ k =>
      rw [Memory.load, List.getD_cons_succ, ih (a + 1) k (by omega)]
      congr 1; omega

/-- A buffer filled from its first cell by exactly `n` bytes loads as those bytes. -/
theorem Memory.load_store (size : Nat) (m : Memory) (bs : List Byte) (hl : bs.length ≤ size)
    (h : Memory.wf size m = true) : Memory.load (Memory.store m 0 bs) 0 bs.length = bs := by
  refine List.ext_getElem (by simp) fun k h1 h2 => ?_
  have hk : k < bs.length := h2
  have := Memory.load_getD (Memory.store m 0 bs) bs.length 0 k hk
  rw [List.getD_eq_getElem _ _ h1] at this
  rw [this, Memory.read_store size bs m 0 _ (by omega) h, if_pos (by omega)]
  simp [hk]

end Sys2Proof.Machine
end

