-- ==== Sys2Proof/Laws/State.lean ====
section
/-! SUPPORT. For each unconditional update of the state, one lemma per field: what the field then holds. -/

namespace Sys2Proof.Machine

/-! ## `State.emit` -/

@[simp] theorem State.emit_cfg (s : State) (o : Output) : (s.emit o).cfg = s.cfg := rfl
@[simp] theorem State.emit_cfgIn (s : State) (o : Output) : (s.emit o).cfgIn = s.cfgIn := rfl
@[simp] theorem State.emit_state (s : State) (o : Output) : (s.emit o).state = s.state := rfl
@[simp] theorem State.emit_pending (s : State) (o : Output) : (s.emit o).pending = s.pending := rfl
@[simp] theorem State.emit_lastSent (s : State) (o : Output) : (s.emit o).lastSent = s.lastSent := rfl
@[simp] theorem State.emit_forceRefresh (s : State) (o : Output) : (s.emit o).forceRefresh = s.forceRefresh := rfl
@[simp] theorem State.emit_snap (s : State) (o : Output) : (s.emit o).snap = s.snap := rfl
@[simp] theorem State.emit_tel (s : State) (o : Output) : (s.emit o).tel = s.tel := rfl
@[simp] theorem State.emit_fmInit (s : State) (o : Output) : (s.emit o).fmInit = s.fmInit := rfl
@[simp] theorem State.emit_fmLastReported (s : State) (o : Output) : (s.emit o).fmLastReported = s.fmLastReported := rfl
@[simp] theorem State.emit_fmKind (s : State) (o : Output) : (s.emit o).fmKind = s.fmKind := rfl
@[simp] theorem State.emit_fmSp (s : State) (o : Output) : (s.emit o).fmSp = s.fmSp := rfl
@[simp] theorem State.emit_remote (s : State) (o : Output) : (s.emit o).remote = s.remote := rfl
@[simp] theorem State.emit_fmLastMs (s : State) (o : Output) : (s.emit o).fmLastMs = s.fmLastMs := rfl
@[simp] theorem State.emit_fmChgArmed (s : State) (o : Output) : (s.emit o).fmChgArmed = s.fmChgArmed := rfl
@[simp] theorem State.emit_fmChgDeadline (s : State) (o : Output) : (s.emit o).fmChgDeadline = s.fmChgDeadline := rfl
@[simp] theorem State.emit_nowMs (s : State) (o : Output) : (s.emit o).nowMs = s.nowMs := rfl
@[simp] theorem State.emit_tickCtr (s : State) (o : Output) : (s.emit o).tickCtr = s.tickCtr := rfl
@[simp] theorem State.emit_winArmed (s : State) (o : Output) : (s.emit o).winArmed = s.winArmed := rfl
@[simp] theorem State.emit_winCtr (s : State) (o : Output) : (s.emit o).winCtr = s.winCtr := rfl
@[simp] theorem State.emit_tx (s : State) (o : Output) : (s.emit o).tx = s.tx := rfl
@[simp] theorem State.emit_rx (s : State) (o : Output) : (s.emit o).rx = s.rx := rfl
@[simp] theorem State.emit_rxCount (s : State) (o : Output) : (s.emit o).rxCount = s.rxCount := rfl
@[simp] theorem State.emit_rxFifo (s : State) (o : Output) : (s.emit o).rxFifo = s.rxFifo := rfl
@[simp] theorem State.emit_out (s : State) (o : Output) : (s.emit o).out = s.out ++ [o] := rfl
@[simp] theorem State.emit_inbox (s : State) (o : Output) : (s.emit o).inbox = s.inbox := rfl

/-! ## `State.raise` -/

@[simp] theorem State.raise_cfg (s : State) (r : LogRecord) : (s.raise r).cfg = s.cfg := rfl
@[simp] theorem State.raise_cfgIn (s : State) (r : LogRecord) : (s.raise r).cfgIn = s.cfgIn := rfl
@[simp] theorem State.raise_state (s : State) (r : LogRecord) : (s.raise r).state = s.state := rfl
@[simp] theorem State.raise_pending (s : State) (r : LogRecord) : (s.raise r).pending = s.pending := rfl
@[simp] theorem State.raise_lastSent (s : State) (r : LogRecord) : (s.raise r).lastSent = s.lastSent := rfl
@[simp] theorem State.raise_forceRefresh (s : State) (r : LogRecord) : (s.raise r).forceRefresh = s.forceRefresh := rfl
@[simp] theorem State.raise_snap (s : State) (r : LogRecord) : (s.raise r).snap = s.snap := rfl
@[simp] theorem State.raise_tel (s : State) (r : LogRecord) : (s.raise r).tel = s.tel := rfl
@[simp] theorem State.raise_fmInit (s : State) (r : LogRecord) : (s.raise r).fmInit = s.fmInit := rfl
@[simp] theorem State.raise_fmLastReported (s : State) (r : LogRecord) : (s.raise r).fmLastReported = s.fmLastReported := rfl
@[simp] theorem State.raise_fmKind (s : State) (r : LogRecord) : (s.raise r).fmKind = s.fmKind := rfl
@[simp] theorem State.raise_fmSp (s : State) (r : LogRecord) : (s.raise r).fmSp = s.fmSp := rfl
@[simp] theorem State.raise_remote (s : State) (r : LogRecord) : (s.raise r).remote = s.remote := rfl
@[simp] theorem State.raise_fmLastMs (s : State) (r : LogRecord) : (s.raise r).fmLastMs = s.fmLastMs := rfl
@[simp] theorem State.raise_fmChgArmed (s : State) (r : LogRecord) : (s.raise r).fmChgArmed = s.fmChgArmed := rfl
@[simp] theorem State.raise_fmChgDeadline (s : State) (r : LogRecord) : (s.raise r).fmChgDeadline = s.fmChgDeadline := rfl
@[simp] theorem State.raise_nowMs (s : State) (r : LogRecord) : (s.raise r).nowMs = s.nowMs := rfl
@[simp] theorem State.raise_tickCtr (s : State) (r : LogRecord) : (s.raise r).tickCtr = s.tickCtr := rfl
@[simp] theorem State.raise_winArmed (s : State) (r : LogRecord) : (s.raise r).winArmed = s.winArmed := rfl
@[simp] theorem State.raise_winCtr (s : State) (r : LogRecord) : (s.raise r).winCtr = s.winCtr := rfl
@[simp] theorem State.raise_tx (s : State) (r : LogRecord) : (s.raise r).tx = s.tx := rfl
@[simp] theorem State.raise_rx (s : State) (r : LogRecord) : (s.raise r).rx = s.rx := rfl
@[simp] theorem State.raise_rxCount (s : State) (r : LogRecord) : (s.raise r).rxCount = s.rxCount := rfl
@[simp] theorem State.raise_rxFifo (s : State) (r : LogRecord) : (s.raise r).rxFifo = s.rxFifo := rfl
@[simp] theorem State.raise_out (s : State) (r : LogRecord) : (s.raise r).out = s.out ++ [.log r] := rfl
@[simp] theorem State.raise_inbox (s : State) (r : LogRecord) : (s.raise r).inbox = s.inbox := rfl

/-! ## `State.txFrame` -/

@[simp] theorem State.txFrame_cfg (s : State) (c : Cmd) (p : List Byte) : (s.txFrame c p).cfg = s.cfg := rfl
@[simp] theorem State.txFrame_cfgIn (s : State) (c : Cmd) (p : List Byte) : (s.txFrame c p).cfgIn = s.cfgIn := rfl
@[simp] theorem State.txFrame_state (s : State) (c : Cmd) (p : List Byte) : (s.txFrame c p).state = s.state := rfl
@[simp] theorem State.txFrame_pending (s : State) (c : Cmd) (p : List Byte) : (s.txFrame c p).pending = s.pending := rfl
@[simp] theorem State.txFrame_lastSent (s : State) (c : Cmd) (p : List Byte) : (s.txFrame c p).lastSent = s.lastSent := rfl
@[simp] theorem State.txFrame_forceRefresh (s : State) (c : Cmd) (p : List Byte) : (s.txFrame c p).forceRefresh = s.forceRefresh := rfl
@[simp] theorem State.txFrame_snap (s : State) (c : Cmd) (p : List Byte) : (s.txFrame c p).snap = s.snap := rfl
@[simp] theorem State.txFrame_tel (s : State) (c : Cmd) (p : List Byte) : (s.txFrame c p).tel = s.tel := rfl
@[simp] theorem State.txFrame_fmInit (s : State) (c : Cmd) (p : List Byte) : (s.txFrame c p).fmInit = s.fmInit := rfl
@[simp] theorem State.txFrame_fmLastReported (s : State) (c : Cmd) (p : List Byte) : (s.txFrame c p).fmLastReported = s.fmLastReported := rfl
@[simp] theorem State.txFrame_fmKind (s : State) (c : Cmd) (p : List Byte) : (s.txFrame c p).fmKind = s.fmKind := rfl
@[simp] theorem State.txFrame_fmSp (s : State) (c : Cmd) (p : List Byte) : (s.txFrame c p).fmSp = s.fmSp := rfl
@[simp] theorem State.txFrame_remote (s : State) (c : Cmd) (p : List Byte) : (s.txFrame c p).remote = s.remote := rfl
@[simp] theorem State.txFrame_fmLastMs (s : State) (c : Cmd) (p : List Byte) : (s.txFrame c p).fmLastMs = s.fmLastMs := rfl
@[simp] theorem State.txFrame_fmChgArmed (s : State) (c : Cmd) (p : List Byte) : (s.txFrame c p).fmChgArmed = s.fmChgArmed := rfl
@[simp] theorem State.txFrame_fmChgDeadline (s : State) (c : Cmd) (p : List Byte) : (s.txFrame c p).fmChgDeadline = s.fmChgDeadline := rfl
@[simp] theorem State.txFrame_nowMs (s : State) (c : Cmd) (p : List Byte) : (s.txFrame c p).nowMs = s.nowMs := rfl
@[simp] theorem State.txFrame_tickCtr (s : State) (c : Cmd) (p : List Byte) : (s.txFrame c p).tickCtr = s.tickCtr := rfl
@[simp] theorem State.txFrame_winArmed (s : State) (c : Cmd) (p : List Byte) : (s.txFrame c p).winArmed = s.winArmed := rfl
@[simp] theorem State.txFrame_winCtr (s : State) (c : Cmd) (p : List Byte) : (s.txFrame c p).winCtr = s.winCtr := rfl
@[simp] theorem State.txFrame_tx (s : State) (c : Cmd) (p : List Byte) : (s.txFrame c p).tx = Memory.store s.tx 0 (encodeTx s.cfg c p) := rfl
@[simp] theorem State.txFrame_rx (s : State) (c : Cmd) (p : List Byte) : (s.txFrame c p).rx = s.rx := rfl
@[simp] theorem State.txFrame_rxCount (s : State) (c : Cmd) (p : List Byte) : (s.txFrame c p).rxCount = s.rxCount := rfl
@[simp] theorem State.txFrame_rxFifo (s : State) (c : Cmd) (p : List Byte) : (s.txFrame c p).rxFifo = s.rxFifo := rfl
@[simp] theorem State.txFrame_out (s : State) (c : Cmd) (p : List Byte) : (s.txFrame c p).out = s.out ++ [.txWrite (Memory.load (Memory.store s.tx 0 (encodeTx s.cfg c p)) 0 txLen), .txFlush] := rfl
@[simp] theorem State.txFrame_inbox (s : State) (c : Cmd) (p : List Byte) : (s.txFrame c p).inbox = s.inbox := rfl

/-! ## `State.armWindow` -/

@[simp] theorem State.armWindow_cfg (s : State) (c : Cmd) : (s.armWindow c).cfg = s.cfg := rfl
@[simp] theorem State.armWindow_cfgIn (s : State) (c : Cmd) : (s.armWindow c).cfgIn = s.cfgIn := rfl
@[simp] theorem State.armWindow_state (s : State) (c : Cmd) : (s.armWindow c).state = .awaiting := rfl
@[simp] theorem State.armWindow_pending (s : State) (c : Cmd) : (s.armWindow c).pending = s.pending := rfl
@[simp] theorem State.armWindow_lastSent (s : State) (c : Cmd) : (s.armWindow c).lastSent = some c := rfl
@[simp] theorem State.armWindow_forceRefresh (s : State) (c : Cmd) : (s.armWindow c).forceRefresh = s.forceRefresh := rfl
@[simp] theorem State.armWindow_snap (s : State) (c : Cmd) : (s.armWindow c).snap = s.snap := rfl
@[simp] theorem State.armWindow_tel (s : State) (c : Cmd) : (s.armWindow c).tel = s.tel := rfl
@[simp] theorem State.armWindow_fmInit (s : State) (c : Cmd) : (s.armWindow c).fmInit = s.fmInit := rfl
@[simp] theorem State.armWindow_fmLastReported (s : State) (c : Cmd) : (s.armWindow c).fmLastReported = s.fmLastReported := rfl
@[simp] theorem State.armWindow_fmKind (s : State) (c : Cmd) : (s.armWindow c).fmKind = s.fmKind := rfl
@[simp] theorem State.armWindow_fmSp (s : State) (c : Cmd) : (s.armWindow c).fmSp = s.fmSp := rfl
@[simp] theorem State.armWindow_remote (s : State) (c : Cmd) : (s.armWindow c).remote = s.remote := rfl
@[simp] theorem State.armWindow_fmLastMs (s : State) (c : Cmd) : (s.armWindow c).fmLastMs = s.fmLastMs := rfl
@[simp] theorem State.armWindow_fmChgArmed (s : State) (c : Cmd) : (s.armWindow c).fmChgArmed = s.fmChgArmed := rfl
@[simp] theorem State.armWindow_fmChgDeadline (s : State) (c : Cmd) : (s.armWindow c).fmChgDeadline = s.fmChgDeadline := rfl
@[simp] theorem State.armWindow_nowMs (s : State) (c : Cmd) : (s.armWindow c).nowMs = s.nowMs := rfl
@[simp] theorem State.armWindow_tickCtr (s : State) (c : Cmd) : (s.armWindow c).tickCtr = s.tickCtr := rfl
@[simp] theorem State.armWindow_winArmed (s : State) (c : Cmd) : (s.armWindow c).winArmed = true := rfl
@[simp] theorem State.armWindow_winCtr (s : State) (c : Cmd) : (s.armWindow c).winCtr = s.cfg.windowMs := rfl
@[simp] theorem State.armWindow_tx (s : State) (c : Cmd) : (s.armWindow c).tx = s.tx := rfl
@[simp] theorem State.armWindow_rx (s : State) (c : Cmd) : (s.armWindow c).rx = s.rx := rfl
@[simp] theorem State.armWindow_rxCount (s : State) (c : Cmd) : (s.armWindow c).rxCount = s.rxCount := rfl
@[simp] theorem State.armWindow_rxFifo (s : State) (c : Cmd) : (s.armWindow c).rxFifo = s.rxFifo := rfl
@[simp] theorem State.armWindow_out (s : State) (c : Cmd) : (s.armWindow c).out = s.out := rfl
@[simp] theorem State.armWindow_inbox (s : State) (c : Cmd) : (s.armWindow c).inbox = s.inbox := rfl

/-! ## `State.fmTempSent` -/

@[simp] theorem State.fmTempSent_cfg (s : State) : (s.fmTempSent).cfg = s.cfg := rfl
@[simp] theorem State.fmTempSent_cfgIn (s : State) : (s.fmTempSent).cfgIn = s.cfgIn := rfl
@[simp] theorem State.fmTempSent_state (s : State) : (s.fmTempSent).state = s.state := rfl
@[simp] theorem State.fmTempSent_pending (s : State) : (s.fmTempSent).pending = s.pending := rfl
@[simp] theorem State.fmTempSent_lastSent (s : State) : (s.fmTempSent).lastSent = s.lastSent := rfl
@[simp] theorem State.fmTempSent_forceRefresh (s : State) : (s.fmTempSent).forceRefresh = s.forceRefresh := rfl
@[simp] theorem State.fmTempSent_snap (s : State) : (s.fmTempSent).snap = s.snap := rfl
@[simp] theorem State.fmTempSent_tel (s : State) : (s.fmTempSent).tel = s.tel := rfl
@[simp] theorem State.fmTempSent_fmInit (s : State) : (s.fmTempSent).fmInit = s.fmInit := rfl
@[simp] theorem State.fmTempSent_fmLastReported (s : State) : (s.fmTempSent).fmLastReported = s.remote := rfl
@[simp] theorem State.fmTempSent_fmKind (s : State) : (s.fmTempSent).fmKind = s.fmKind := rfl
@[simp] theorem State.fmTempSent_fmSp (s : State) : (s.fmTempSent).fmSp = s.fmSp := rfl
@[simp] theorem State.fmTempSent_remote (s : State) : (s.fmTempSent).remote = s.remote := rfl
@[simp] theorem State.fmTempSent_fmLastMs (s : State) : (s.fmTempSent).fmLastMs = s.nowMs := rfl
@[simp] theorem State.fmTempSent_fmChgArmed (s : State) : (s.fmTempSent).fmChgArmed = false := rfl
@[simp] theorem State.fmTempSent_fmChgDeadline (s : State) : (s.fmTempSent).fmChgDeadline = s.fmChgDeadline := rfl
@[simp] theorem State.fmTempSent_nowMs (s : State) : (s.fmTempSent).nowMs = s.nowMs := rfl
@[simp] theorem State.fmTempSent_tickCtr (s : State) : (s.fmTempSent).tickCtr = s.tickCtr := rfl
@[simp] theorem State.fmTempSent_winArmed (s : State) : (s.fmTempSent).winArmed = s.winArmed := rfl
@[simp] theorem State.fmTempSent_winCtr (s : State) : (s.fmTempSent).winCtr = s.winCtr := rfl
@[simp] theorem State.fmTempSent_tx (s : State) : (s.fmTempSent).tx = s.tx := rfl
@[simp] theorem State.fmTempSent_rx (s : State) : (s.fmTempSent).rx = s.rx := rfl
@[simp] theorem State.fmTempSent_rxCount (s : State) : (s.fmTempSent).rxCount = s.rxCount := rfl
@[simp] theorem State.fmTempSent_rxFifo (s : State) : (s.fmTempSent).rxFifo = s.rxFifo := rfl
@[simp] theorem State.fmTempSent_out (s : State) : (s.fmTempSent).out = s.out := rfl
@[simp] theorem State.fmTempSent_inbox (s : State) : (s.fmTempSent).inbox = s.inbox := rfl

/-! ## `State.fmStaticSent` -/

@[simp] theorem State.fmStaticSent_cfg (s : State) : (s.fmStaticSent).cfg = s.cfg := rfl
@[simp] theorem State.fmStaticSent_cfgIn (s : State) : (s.fmStaticSent).cfgIn = s.cfgIn := rfl
@[simp] theorem State.fmStaticSent_state (s : State) : (s.fmStaticSent).state = s.state := rfl
@[simp] theorem State.fmStaticSent_pending (s : State) : (s.fmStaticSent).pending = s.pending := rfl
@[simp] theorem State.fmStaticSent_lastSent (s : State) : (s.fmStaticSent).lastSent = s.lastSent := rfl
@[simp] theorem State.fmStaticSent_forceRefresh (s : State) : (s.fmStaticSent).forceRefresh = s.forceRefresh := rfl
@[simp] theorem State.fmStaticSent_snap (s : State) : (s.fmStaticSent).snap = s.snap := rfl
@[simp] theorem State.fmStaticSent_tel (s : State) : (s.fmStaticSent).tel = s.tel := rfl
@[simp] theorem State.fmStaticSent_fmInit (s : State) : (s.fmStaticSent).fmInit = s.fmInit := rfl
@[simp] theorem State.fmStaticSent_fmLastReported (s : State) : (s.fmStaticSent).fmLastReported = s.fmLastReported := rfl
@[simp] theorem State.fmStaticSent_fmKind (s : State) : (s.fmStaticSent).fmKind = .temp := rfl
@[simp] theorem State.fmStaticSent_fmSp (s : State) : (s.fmStaticSent).fmSp = s.fmSp := rfl
@[simp] theorem State.fmStaticSent_remote (s : State) : (s.fmStaticSent).remote = s.remote := rfl
@[simp] theorem State.fmStaticSent_fmLastMs (s : State) : (s.fmStaticSent).fmLastMs = s.nowMs := rfl
@[simp] theorem State.fmStaticSent_fmChgArmed (s : State) : (s.fmStaticSent).fmChgArmed = s.fmChgArmed := rfl
@[simp] theorem State.fmStaticSent_fmChgDeadline (s : State) : (s.fmStaticSent).fmChgDeadline = s.fmChgDeadline := rfl
@[simp] theorem State.fmStaticSent_nowMs (s : State) : (s.fmStaticSent).nowMs = s.nowMs := rfl
@[simp] theorem State.fmStaticSent_tickCtr (s : State) : (s.fmStaticSent).tickCtr = s.tickCtr := rfl
@[simp] theorem State.fmStaticSent_winArmed (s : State) : (s.fmStaticSent).winArmed = s.winArmed := rfl
@[simp] theorem State.fmStaticSent_winCtr (s : State) : (s.fmStaticSent).winCtr = s.winCtr := rfl
@[simp] theorem State.fmStaticSent_tx (s : State) : (s.fmStaticSent).tx = s.tx := rfl
@[simp] theorem State.fmStaticSent_rx (s : State) : (s.fmStaticSent).rx = s.rx := rfl
@[simp] theorem State.fmStaticSent_rxCount (s : State) : (s.fmStaticSent).rxCount = s.rxCount := rfl
@[simp] theorem State.fmStaticSent_rxFifo (s : State) : (s.fmStaticSent).rxFifo = s.rxFifo := rfl
@[simp] theorem State.fmStaticSent_out (s : State) : (s.fmStaticSent).out = s.out := rfl
@[simp] theorem State.fmStaticSent_inbox (s : State) : (s.fmStaticSent).inbox = s.inbox := rfl

/-! ## `State.drain` -/

@[simp] theorem State.drain_cfg (s : State) : (s.drain).cfg = s.cfg := rfl
@[simp] theorem State.drain_cfgIn (s : State) : (s.drain).cfgIn = s.cfgIn := rfl
@[simp] theorem State.drain_state (s : State) : (s.drain).state = s.state := rfl
@[simp] theorem State.drain_pending (s : State) : (s.drain).pending = s.pending := rfl
@[simp] theorem State.drain_lastSent (s : State) : (s.drain).lastSent = s.lastSent := rfl
@[simp] theorem State.drain_forceRefresh (s : State) : (s.drain).forceRefresh = s.forceRefresh := rfl
@[simp] theorem State.drain_snap (s : State) : (s.drain).snap = s.snap := rfl
@[simp] theorem State.drain_tel (s : State) : (s.drain).tel = s.tel := rfl
@[simp] theorem State.drain_fmInit (s : State) : (s.drain).fmInit = s.fmInit := rfl
@[simp] theorem State.drain_fmLastReported (s : State) : (s.drain).fmLastReported = s.fmLastReported := rfl
@[simp] theorem State.drain_fmKind (s : State) : (s.drain).fmKind = s.fmKind := rfl
@[simp] theorem State.drain_fmSp (s : State) : (s.drain).fmSp = s.fmSp := rfl
@[simp] theorem State.drain_remote (s : State) : (s.drain).remote = s.remote := rfl
@[simp] theorem State.drain_fmLastMs (s : State) : (s.drain).fmLastMs = s.fmLastMs := rfl
@[simp] theorem State.drain_fmChgArmed (s : State) : (s.drain).fmChgArmed = s.fmChgArmed := rfl
@[simp] theorem State.drain_fmChgDeadline (s : State) : (s.drain).fmChgDeadline = s.fmChgDeadline := rfl
@[simp] theorem State.drain_nowMs (s : State) : (s.drain).nowMs = s.nowMs := rfl
@[simp] theorem State.drain_tickCtr (s : State) : (s.drain).tickCtr = s.tickCtr := rfl
@[simp] theorem State.drain_winArmed (s : State) : (s.drain).winArmed = s.winArmed := rfl
@[simp] theorem State.drain_winCtr (s : State) : (s.drain).winCtr = s.winCtr := rfl
@[simp] theorem State.drain_tx (s : State) : (s.drain).tx = s.tx := rfl
@[simp] theorem State.drain_rx (s : State) : (s.drain).rx = Memory.store s.rx 0 (s.rxFifo.take rxLen) := rfl
@[simp] theorem State.drain_rxCount (s : State) : (s.drain).rxCount = BitVec.ofNat 8 (min s.rxFifo.length 255) := rfl
@[simp] theorem State.drain_rxFifo (s : State) : (s.drain).rxFifo = [] := rfl
@[simp] theorem State.drain_out (s : State) : (s.drain).out = s.out := rfl
@[simp] theorem State.drain_inbox (s : State) : (s.drain).inbox = s.inbox := rfl

/-! ## `State.advance` -/

@[simp] theorem State.advance_cfg (s : State) : (s.advance).cfg = s.cfg := rfl
@[simp] theorem State.advance_cfgIn (s : State) : (s.advance).cfgIn = s.cfgIn := rfl
@[simp] theorem State.advance_state (s : State) : (s.advance).state = s.state := rfl
@[simp] theorem State.advance_pending (s : State) : (s.advance).pending = s.pending := rfl
@[simp] theorem State.advance_lastSent (s : State) : (s.advance).lastSent = s.lastSent := rfl
@[simp] theorem State.advance_forceRefresh (s : State) : (s.advance).forceRefresh = s.forceRefresh := rfl
@[simp] theorem State.advance_snap (s : State) : (s.advance).snap = s.snap := rfl
@[simp] theorem State.advance_tel (s : State) : (s.advance).tel = s.tel := rfl
@[simp] theorem State.advance_fmInit (s : State) : (s.advance).fmInit = s.fmInit := rfl
@[simp] theorem State.advance_fmLastReported (s : State) : (s.advance).fmLastReported = s.fmLastReported := rfl
@[simp] theorem State.advance_fmKind (s : State) : (s.advance).fmKind = s.fmKind := rfl
@[simp] theorem State.advance_fmSp (s : State) : (s.advance).fmSp = s.fmSp := rfl
@[simp] theorem State.advance_remote (s : State) : (s.advance).remote = s.remote := rfl
@[simp] theorem State.advance_fmLastMs (s : State) : (s.advance).fmLastMs = s.fmLastMs := rfl
@[simp] theorem State.advance_fmChgArmed (s : State) : (s.advance).fmChgArmed = s.fmChgArmed := rfl
@[simp] theorem State.advance_fmChgDeadline (s : State) : (s.advance).fmChgDeadline = s.fmChgDeadline := rfl
@[simp] theorem State.advance_nowMs (s : State) : (s.advance).nowMs = s.nowMs := rfl
@[simp] theorem State.advance_tickCtr (s : State) : (s.advance).tickCtr = s.tickCtr := rfl
@[simp] theorem State.advance_winArmed (s : State) : (s.advance).winArmed = s.winArmed := rfl
@[simp] theorem State.advance_winCtr (s : State) : (s.advance).winCtr = s.winCtr := rfl
@[simp] theorem State.advance_tx (s : State) : (s.advance).tx = s.tx := rfl
@[simp] theorem State.advance_rx (s : State) : (s.advance).rx = s.rx := rfl
@[simp] theorem State.advance_rxCount (s : State) : (s.advance).rxCount = s.rxCount := rfl
@[simp] theorem State.advance_rxFifo (s : State) : (s.advance).rxFifo = s.rxFifo := rfl
@[simp] theorem State.advance_out (s : State) : (s.advance).out = s.out := rfl
@[simp] theorem State.advance_inbox (s : State) : (s.advance).inbox = s.inbox.tail := rfl

/-! ## `State.tickTime` -/

@[simp] theorem State.tickTime_cfg (s : State) : (s.tickTime).cfg = s.cfg := rfl
@[simp] theorem State.tickTime_cfgIn (s : State) : (s.tickTime).cfgIn = s.cfgIn := rfl
@[simp] theorem State.tickTime_state (s : State) : (s.tickTime).state = s.state := rfl
@[simp] theorem State.tickTime_pending (s : State) : (s.tickTime).pending = s.pending := rfl
@[simp] theorem State.tickTime_lastSent (s : State) : (s.tickTime).lastSent = s.lastSent := rfl
@[simp] theorem State.tickTime_forceRefresh (s : State) : (s.tickTime).forceRefresh = s.forceRefresh := rfl
@[simp] theorem State.tickTime_snap (s : State) : (s.tickTime).snap = s.snap := rfl
@[simp] theorem State.tickTime_tel (s : State) : (s.tickTime).tel = s.tel := rfl
@[simp] theorem State.tickTime_fmInit (s : State) : (s.tickTime).fmInit = s.fmInit := rfl
@[simp] theorem State.tickTime_fmLastReported (s : State) : (s.tickTime).fmLastReported = s.fmLastReported := rfl
@[simp] theorem State.tickTime_fmKind (s : State) : (s.tickTime).fmKind = s.fmKind := rfl
@[simp] theorem State.tickTime_fmSp (s : State) : (s.tickTime).fmSp = s.fmSp := rfl
@[simp] theorem State.tickTime_remote (s : State) : (s.tickTime).remote = s.remote := rfl
@[simp] theorem State.tickTime_fmLastMs (s : State) : (s.tickTime).fmLastMs = s.fmLastMs := rfl
@[simp] theorem State.tickTime_fmChgArmed (s : State) : (s.tickTime).fmChgArmed = s.fmChgArmed := rfl
@[simp] theorem State.tickTime_fmChgDeadline (s : State) : (s.tickTime).fmChgDeadline = s.fmChgDeadline := rfl
@[simp] theorem State.tickTime_nowMs (s : State) : (s.tickTime).nowMs = s.nowMs + 1 := rfl
@[simp] theorem State.tickTime_tickCtr (s : State) : (s.tickTime).tickCtr = s.tickCtr := rfl
@[simp] theorem State.tickTime_winArmed (s : State) : (s.tickTime).winArmed = s.winArmed := rfl
@[simp] theorem State.tickTime_winCtr (s : State) : (s.tickTime).winCtr = s.winCtr := rfl
@[simp] theorem State.tickTime_tx (s : State) : (s.tickTime).tx = s.tx := rfl
@[simp] theorem State.tickTime_rx (s : State) : (s.tickTime).rx = s.rx := rfl
@[simp] theorem State.tickTime_rxCount (s : State) : (s.tickTime).rxCount = s.rxCount := rfl
@[simp] theorem State.tickTime_rxFifo (s : State) : (s.tickTime).rxFifo = s.rxFifo := rfl
@[simp] theorem State.tickTime_out (s : State) : (s.tickTime).out = s.out := rfl
@[simp] theorem State.tickTime_inbox (s : State) : (s.tickTime).inbox = s.inbox := rfl

end Sys2Proof.Machine
end

