-- ==== Sys2Proof/Laws/Ops.lean ====
section
/-! SUPPORT. For each shared operation, one lemma that says everything it can do. -/

namespace Sys2Proof.Machine

/-! ## Outcomes -/

/-- An admitted configuration lets the event have its meaning. -/
theorem whenAdmitted_of_wf {s : State} (h : s.cfg.wf = true) (o : Host.Outcome State Fault Refusal) :
    whenAdmitted s o = o := if_pos h

/-- Any other configuration is refused. -/
theorem whenAdmitted_of_not_wf {s : State} (h : s.cfg.wf = false) (o : Host.Outcome State Fault Refusal) :
    whenAdmitted s o = .refused .configNotAdmitted := by simp [whenAdmitted, h]

/-- A next state came from an admitted configuration. -/
theorem whenAdmitted_next {s t : State} {o : Host.Outcome State Fault Refusal} (h : whenAdmitted s o = .next t) :
    s.cfg.wf = true ∧ o = .next t := by
  unfold whenAdmitted at h
  split at h
  · next hw => exact ⟨hw, h⟩
  · cases h

/-- A next state of two sub-steps came through a state between them. -/
theorem andThen_next {o : Host.Outcome State Fault Refusal} {f : State → Host.Outcome State Fault Refusal} {t : State}
    (h : andThen o f = .next t) : ∃ u, o = .next u ∧ f u = .next t := by
  cases o with
  | next u => exact ⟨u, rfl, h⟩
  | fault r => cases h
  | refused r => cases h

/-! ## Publication -/

/-- An item that already holds the value is unchanged by storing it. -/
theorem Telemetry.put_of_holds {t : Telemetry} {r : Reading} (h : t.holds r = true) : t.put r = t := by
  cases r <;> simp only [Telemetry.holds, beq_iff_eq] at h <;> simp [Telemetry.put, ← h]

/-- The pushes of a list of readings, in order (44_interpreter.md R210). -/
def pushes : Telemetry → List Reading → List Output
  | _, [] => []
  | t, r :: rs => (if t.holds r then [] else [.publish r]) ++ pushes (t.put r) rs

/-- What `publish` does: the item holds the value, and the push is made where it did not. -/
theorem State.publish_eq (s : State) (r : Reading) :
    s.publish r = { s with tel := s.tel.put r, out := s.out ++ (if s.tel.holds r then [] else [.publish r]) } := by
  unfold State.publish
  split
  · next h => simp [Telemetry.put_of_holds h]
  · rfl

/-- What publishing a list of items does. -/
theorem State.publishAll_eq (rs : List Reading) : ∀ s : State,
    s.publishAll rs = { s with tel := rs.foldl Telemetry.put s.tel, out := s.out ++ pushes s.tel rs } := by
  induction rs with
  | nil => intro s; simp [State.publishAll, pushes]
  | cons r rs ih => intro s; simp [State.publishAll, ih, State.publish_eq, pushes]

/-- What the end of a response does: one `Notify` where the snapshot differs. -/
theorem State.notifyIfChanged_eq (s : State) (before : Snapshot) :
    s.notifyIfChanged before = { s with out := s.out ++ (if s.snap = before then [] else [.notify]) } := by
  unfold State.notifyIfChanged
  split <;> simp [State.emit]

/-! ## Sequencer -/

/-- What `request` does (45_sequencer.md R246). -/
theorem State.request_eq (s : State) (target : SendState) :
    s.request target =
      if s.state = .awaiting then { s with pending := some target } else { s with state := .send target } := by
  unfold State.request
  cases h : s.state <;> simp

/-- The send state after a successful exchange, where R242 names one. -/
def State.afterSuccess (s : State) : Option SendState := s.pending.orElse fun _ => s.lastSent.map (nextSend s.cfg.cycle)

/-- What `SUCCESS()` does (R242). -/
theorem State.success_eq (s : State) :
    s.success = match s.afterSuccess with
      | some p => .next { s with state := .send p, pending := none }
      | none => .fault .noCommandInFlight := by
  unfold State.success State.afterSuccess
  obtain ⟨_, _, _, pending, lastSent⟩ := s
  cases pending with
  | some p => rfl
  | none => cases lastSent <;> rfl

/-- A successful exchange enters a send state, empties the slot, and changes nothing else. -/
theorem State.success_next {s t : State} (h : s.success = .next t) :
    ∃ p, s.afterSuccess = some p ∧ t = { s with state := .send p, pending := none } := by
  rw [State.success_eq] at h
  split at h
  · next p hp => exact ⟨p, hp, by cases h; rfl⟩
  · cases h

/-- The send state after a failed exchange (R244). -/
def State.afterFailure (s : State) : Option SendState :=
  match s.cfg.recovery with
  | .fallbackQuery => some (s.pending.getD .sendQuery)
  | .advance => s.afterSuccess

/-- What `FAILURE()` does (R244). -/
theorem State.failure_eq (s : State) :
    s.failure = match s.afterFailure with
      | some p => .next { s with state := .send p, pending := none }
      | none => .fault .noCommandInFlight := by
  unfold State.failure State.afterFailure
  cases s.cfg.recovery with
  | fallbackQuery =>
    obtain ⟨_, _, _, pending⟩ := s
    cases pending <;> rfl
  | advance => exact State.success_eq s

/-- A failed exchange enters a send state, empties the slot, and changes nothing else. -/
theorem State.failure_next {s t : State} (h : s.failure = .next t) :
    ∃ p, s.afterFailure = some p ∧ t = { s with state := .send p, pending := none } := by
  rw [State.failure_eq] at h
  split at h
  · next p hp => exact ⟨p, hp, by cases h; rfl⟩
  · cases h

/-- A known command in flight gives every exchange its next state. -/
theorem State.afterSuccess_isSome {s : State} (h : s.lastSent ≠ none) : ∃ p, s.afterSuccess = some p := by
  unfold State.afterSuccess
  cases s.pending with
  | some p => exact ⟨p, rfl⟩
  | none => cases hl : s.lastSent with
    | some c => exact ⟨_, rfl⟩
    | none => exact absurd hl h

theorem State.afterFailure_isSome {s : State} (h : s.lastSent ≠ none) : ∃ p, s.afterFailure = some p := by
  unfold State.afterFailure
  cases s.cfg.recovery with
  | fallbackQuery => exact ⟨_, rfl⟩
  | advance => exact State.afterSuccess_isSome h

/-- The record of a skipped send (R251). -/
def SkipReason.log (target : SendState) : SkipReason → List Output
  | .suppressed => []
  | .noReading => []
  | .tempRange => [.log (.tempRangeSkip target)]
  | .snapshotIncomplete => [.log (.snapshotIncomplete target)]

/-- What `SKIPPED` does (R251). -/
theorem State.skipped_eq (s : State) (target : SendState) (reason : SkipReason) :
    s.skipped target reason = { s with state := .send .sendQuery, out := s.out ++ reason.log target } := by
  cases reason <;> simp [State.skipped, SkipReason.log, State.raise, State.emit]

/-- What logging a rejected frame does. -/
theorem State.raiseReject_eq (s : State) (e : DecodeError) :
    s.raiseReject e = { s with out := s.out ++ (rejectRecord e).toList.map .log } := by
  unfold State.raiseReject
  cases rejectRecord e <;> simp [State.raise, State.emit]

/-! ## The steps of a response -/

/-- The snapshot after a query response, and the records of unknown codes (44_interpreter.md R202-R208). -/
def querySnapshot (s : State) (q : List Byte) : Snapshot where
  mode := (correctedMode s.cfg (payloadByte q s.cfg.rxq.mode)).orElse fun _ => s.snap.mode
  fan := (decodeFan s.cfg (payloadByte q s.cfg.rxq.fan)).orElse fun _ => s.snap.fan
  target :=
    if correctedMode s.cfg (payloadByte q s.cfg.rxq.mode) = some .off ∧ s.forceRefresh = false then s.snap.target
    else some (targetFromRaw s.cfg (payloadByte q s.cfg.rxq.target))
  swing := some (decodeSwing s.cfg (payloadByte q s.cfg.rxq.modeFlags))
  preset := some (decodePreset s.cfg (payloadByte q s.cfg.rxq.modeFlags))
  action := (computeAction s.cfg s.snap.mode q).orElse fun _ => s.snap.action
  current :=
    match s.cfg.currentSrc with
    | .device => some (toCelsius (payloadByte q s.cfg.rxq.t1))
    | .remote => s.remote.orElse fun _ => s.snap.current

/-- The records of unknown codes of a query response, mode before fan (R202, R203). -/
def queryLogs (s : State) (q : List Byte) : List Output :=
  (if correctedMode s.cfg (payloadByte q s.cfg.rxq.mode) = none then
    [.log (.unknownEnum .mode (payloadByte q s.cfg.rxq.mode))] else []) ++
  (if decodeFan s.cfg (payloadByte q s.cfg.rxq.fan) = none then
    [.log (.unknownEnum .fan (payloadByte q s.cfg.rxq.fan))] else [])

theorem State.applyMode_eq (s : State) (q : List Byte) :
    s.applyMode q = { s with
      snap := { s.snap with
        mode := (correctedMode s.cfg (payloadByte q s.cfg.rxq.mode)).orElse fun _ => s.snap.mode }
      out := s.out ++ (if correctedMode s.cfg (payloadByte q s.cfg.rxq.mode) = none then
        [.log (.unknownEnum .mode (payloadByte q s.cfg.rxq.mode))] else []) } := by
  unfold State.applyMode
  cases h : correctedMode s.cfg (payloadByte q s.cfg.rxq.mode) <;> simp [State.raise, State.emit]

theorem State.applyFan_eq (s : State) (q : List Byte) :
    s.applyFan q = { s with
      snap := { s.snap with fan := (decodeFan s.cfg (payloadByte q s.cfg.rxq.fan)).orElse fun _ => s.snap.fan }
      out := s.out ++ (if decodeFan s.cfg (payloadByte q s.cfg.rxq.fan) = none then
        [.log (.unknownEnum .fan (payloadByte q s.cfg.rxq.fan))] else []) } := by
  unfold State.applyFan
  cases h : decodeFan s.cfg (payloadByte q s.cfg.rxq.fan) <;> simp [State.raise, State.emit]

theorem State.applyAction_eq (s : State) (pm : Option Mode) (q : List Byte) :
    s.applyAction pm q = { s with
      snap := { s.snap with action := (computeAction s.cfg pm q).orElse fun _ => s.snap.action } } := by
  unfold State.applyAction
  cases computeAction s.cfg pm q <;> simp

theorem State.applyTarget_eq (s : State) (q : List Byte) :
    s.applyTarget q = { s with
      snap := { s.snap with
        target :=
          if correctedMode s.cfg (payloadByte q s.cfg.rxq.mode) = some .off ∧ s.forceRefresh = false then s.snap.target
          else some (targetFromRaw s.cfg (payloadByte q s.cfg.rxq.target)) } } := by
  unfold State.applyTarget
  split <;> rfl

theorem State.applyCurrent_eq (s : State) (q : List Byte) :
    s.applyCurrent q = { s with
      snap := { s.snap with
        current := match s.cfg.currentSrc with
          | .device => some (toCelsius (payloadByte q s.cfg.rxq.t1))
          | .remote => s.remote.orElse fun _ => s.snap.current } } := by
  unfold State.applyCurrent
  cases s.cfg.currentSrc with
  | device => rfl
  | remote =>
    obtain ⟨_, _, _, _, _, _, snap, _, _, _, _, _, remote⟩ := s
    cases remote <;> rfl

/-- What the snapshot steps of a query response do (R202-R208). -/
theorem State.applyQuerySnapshot_eq (s : State) (q : List Byte) :
    s.applyQuerySnapshot q =
      { s with snap := querySnapshot s q, forceRefresh := false, out := s.out ++ queryLogs s q } := by
  simp [State.applyQuerySnapshot, State.applyMode_eq, State.applyFan_eq, State.applyModeFlags, State.applyAction_eq,
    State.applyTarget_eq, State.applyCurrent_eq, querySnapshot, queryLogs]

/-- What `apply_query` does (R201). -/
theorem State.applyQuery_eq (s : State) (q : List Byte) :
    s.applyQuery q = { s with
      snap := querySnapshot s q
      forceRefresh := false
      tel := (queryReadings s.cfg q).foldl Telemetry.put s.tel
      out := s.out ++ queryLogs s q ++ pushes s.tel (queryReadings s.cfg q) ++
        (if querySnapshot s q = s.snap then [] else [.notify]) } := by
  simp only [State.applyQuery, State.applyQuerySnapshot_eq, State.publishAll_eq, State.notifyIfChanged_eq]

/-- The target after a query-extended response (R213). -/
def extTarget (s : State) (q : List Byte) : Temp :=
  if s.cfg.extTargetRefresh then some (targetFromRaw s.cfg (payloadByte q s.cfg.rxe.target)) else s.snap.target

/-- What `apply_query_ext` does (R212). -/
theorem State.applyQueryExt_eq (s : State) (q : List Byte) :
    s.applyQueryExt q = { s with
      snap := { s.snap with target := extTarget s q }
      tel := (queryExtReadings s.cfg q).foldl Telemetry.put s.tel
      out := s.out ++ pushes s.tel (queryExtReadings s.cfg q) ++
        (if { s.snap with target := extTarget s q } = s.snap then [] else [.notify]) } := by
  simp only [State.applyQueryExt, State.applyExtTarget, State.publishAll_eq, State.notifyIfChanged_eq, extTarget]
  split <;> simp

/-- What a receive frame's routing answers when it answers a next state (45_sequencer.md R241). -/
theorem State.route_next {s u t : State} (h : s.route u = .next t) :
    s.cfg.wf = true ∧ (if s.lastSent = some .set then s.success else u.success) = .next t :=
  whenAdmitted_next h

/-! ## Scheduler and requests -/

/-- What the scheduler does (R234). -/
theorem State.schedule_cases (s : State) :
    (s.reportDue = false ∧ s.schedule = s) ∨
    (s.reportDue = true ∧
      s.schedule = State.request { s with fmLastMs := s.nowMs, fmChgArmed := false } .sendFollowMe) := by
  unfold State.schedule
  cases h : s.reportDue <;> simp

/-- What an accepted control request does (R245, R246). -/
theorem State.acceptControl_eq (s : State) (req : ControlReq) :
    s.acceptControl req =
      if s.state = .awaiting then
        { s with
          snap := s.snap.merge req
          fmInit := if modeChanges s.snap req then false else s.fmInit
          pending := some .sendSet }
      else
        { s with
          snap := s.snap.merge req
          fmInit := if modeChanges s.snap req then false else s.fmInit
          state := .send .sendSet } := by
  simp only [State.acceptControl, State.request_eq]

end Sys2Proof.Machine
end

