-- ==== Sys2Proof/Laws/PerInstr.lean ====
section
/-! SUPPORT. The family `FrameShape`: the packet an instruction is encoded as has the length, constants and checksum of its direction (30_encoding.md R80, R82, R84), and an event's packet is the transaction that decodes to it (R107). -/

namespace Sys2Proof

open Sys2Proof.Machine

/-- The packet has the shape of its direction. -/
def Packet.shaped (cfg : Config) (i : Instr) : Packet → Prop
  | .txFrame f => f.length = 16 ∧ checkFrame f 14 15 = .ok ()
  | .rxFrame f => f.length = 32 ∧ checkFrame f 30 31 = .ok ()
  | .transaction t => decodeTransaction cfg t = .ok i

/-- The encoding of a well-formed instruction has the shape of its direction. -/
def Laws.FrameShape.Statement (i : Instr) : Prop := ∀ cfg : Config, i.wf cfg = true → (encode cfg i).shaped cfg i

theorem encodeTx_shaped (cfg : Config) (c : Cmd) (p : List Byte) (h : p.length = 8) (i : Instr) :
    Packet.shaped cfg i (.txFrame (encodeTx cfg c p)) :=
  have b := encodeTx_bytes cfg c p h
  ⟨encodeTx_length cfg c p h, (checkFrame_ok_iff _ _ _).mpr ⟨b.1, b.2.2.2.2.2, b.2.2.2.2.1⟩⟩

theorem encodeRx_shaped (cfg : Config) (code : Byte) (hdr q : List Byte) (h : rxShape hdr q = true) (i : Instr) :
    Packet.shaped cfg i (.rxFrame (encodeRx code hdr q)) := by
  simp only [rxShape, Bool.and_eq_true, beq_iff_eq] at h
  have b := encodeRx_bytes code hdr q h.1 h.2
  exact ⟨encodeRx_length code hdr q h.1 h.2, (checkFrame_ok_iff _ _ _).mpr ⟨b.1, b.2.2.2.2.2, b.2.2.2.2.1⟩⟩

theorem Laws.FrameShape.query : Laws.FrameShape.Statement .query := fun _ _ => encodeTx_shaped _ _ _ rfl _
theorem Laws.FrameShape.queryExt : Laws.FrameShape.Statement .queryExt := fun _ _ => encodeTx_shaped _ _ _ rfl _
theorem Laws.FrameShape.set (m : Mode) (f : Fan) (temp : Byte) (sw : Bool) (p : Preset) :
    Laws.FrameShape.Statement (.set m f temp sw p) := fun _ _ => encodeTx_shaped _ _ _ (by simp) _
theorem Laws.FrameShape.fmInit (temp : Byte) : Laws.FrameShape.Statement (.fmInit temp) :=
  fun _ _ => encodeTx_shaped _ _ _ (by simp) _
theorem Laws.FrameShape.fmUpdate (temp : Byte) : Laws.FrameShape.Statement (.fmUpdate temp) :=
  fun _ _ => encodeTx_shaped _ _ _ (by simp) _
theorem Laws.FrameShape.fmStatic (sp : U4) : Laws.FrameShape.Statement (.fmStatic sp) :=
  fun _ _ => encodeTx_shaped _ _ _ (by simp) _
theorem Laws.FrameShape.rQuery (hdr q : List Byte) : Laws.FrameShape.Statement (.rQuery hdr q) :=
  fun _ h => encodeRx_shaped _ _ _ _ h _
theorem Laws.FrameShape.rQueryExt (hdr q : List Byte) : Laws.FrameShape.Statement (.rQueryExt hdr q) :=
  fun _ h => encodeRx_shaped _ _ _ _ h _
theorem Laws.FrameShape.rSet (hdr q : List Byte) : Laws.FrameShape.Statement (.rSet hdr q) :=
  fun _ h => encodeRx_shaped _ _ _ _ h _
theorem Laws.FrameShape.rFollowMe (hdr q : List Byte) : Laws.FrameShape.Statement (.rFollowMe hdr q) :=
  fun _ h => encodeRx_shaped _ _ _ _ h _
theorem Laws.FrameShape.rUnknown (code : Byte) (hdr q : List Byte) : Laws.FrameShape.Statement (.rUnknown code hdr q) :=
  fun _ h => encodeRx_shaped _ _ _ _ (Bool.and_eq_true _ _ ▸ h : _ ∧ _).1 _
theorem Laws.FrameShape.reset : Laws.FrameShape.Statement .reset := fun _ _ => rfl
theorem Laws.FrameShape.ms : Laws.FrameShape.Statement .ms := fun _ _ => rfl
theorem Laws.FrameShape.control (req : ControlReq) : Laws.FrameShape.Statement (.control req) := fun _ _ => rfl
theorem Laws.FrameShape.staticPressure (v : Byte) : Laws.FrameShape.Statement (.staticPressure v) := fun _ _ => rfl
theorem Laws.FrameShape.remoteTemp (t : Temp) : Laws.FrameShape.Statement (.remoteTemp t) := fun _ _ => rfl
theorem Laws.FrameShape.rx (bytes : List Byte) : Laws.FrameShape.Statement (.rx bytes) := fun _ _ => rfl

end Sys2Proof
end

