-- ==== Sys2Proof/Laws/Step.lean ====
section
/-! SUPPORT. What a step can do, said once: the event it runs, the sub-steps of `MS`, and what each sub-step answers when it answers a next state. -/

namespace Sys2Proof.Machine

/-! ## The step -/

/-- A step that answers a next state ran one of the six events on the state with its transaction taken. -/
theorem step_next {s t : State} (h : step s = .next t) :
    ∃ i, decodeTransaction s.cfg s.fetch = .ok i ∧ exec i s.advance = .next t := by
  unfold step at h
  split at h
  · next i hi => exact ⟨i, hi, h⟩
  · cases h

/-- A transaction is one of the six events. -/
theorem decodeTransaction_ok {cfg : Config} {tr : Transaction} {i : Instr} (h : decodeTransaction cfg tr = .ok i) :
    i = .ms ∨ i = .reset ∨ (∃ req, i = .control req) ∨ (∃ v, i = .staticPressure v) ∨ (∃ x, i = .remoteTemp x) ∨
    ∃ bs, i = .rx bs := by
  unfold decodeTransaction at h
  split at h <;> cases h <;> simp

/-! ## The sub-steps of `MS` -/

/-- What the window does (45_sequencer.md R233). -/
theorem State.window_cases (s : State) :
    (s.winArmed = false ∧ s.window = .next s) ∨
    (s.winArmed = true ∧ s.winCtr ≠ 1 ∧ s.window = .next { s with winCtr := s.winCtr - 1 }) ∨
    (s.winArmed = true ∧ s.winCtr = 1 ∧ s.window = State.receive { s with winCtr := 0, winArmed := false }) := by
  unfold State.window
  by_cases ha : s.winArmed = true
  · by_cases hc : s.winCtr = 1
    · exact .inr (.inr ⟨ha, hc, by rw [if_pos ha, if_pos (by rw [hc]; rfl), hc]; rfl⟩)
    · have : ¬ (s.winCtr - 1 = 0) := by bv_omega
      exact .inr (.inl ⟨ha, hc, by rw [if_pos ha, if_neg this]⟩)
  · exact .inl ⟨by simpa using ha, if_neg ha⟩

/-- The close of the window is the receive step on the state with the window disarmed (R233). -/
theorem State.window_closes {s : State} (ha : s.winArmed = true) (hc : s.winCtr = 1) :
    s.window = State.receive { s with winCtr := 0, winArmed := false } := by
  rcases s.window_cases with ⟨h, _⟩ | ⟨_, h, _⟩ | ⟨_, _, h⟩
  · rw [ha] at h; cases h
  · exact absurd hc h
  · exact h

/-- The drained state differs from the state before only in the receive buffer, its count and the FIFO. -/
theorem State.drain_eq (s : State) :
    s.drain = { s with rx := s.drain.rx, rxCount := s.drain.rxCount, rxFifo := [] } := rfl

/-- A full FIFO is what the drained buffer loads. -/
theorem State.load_drain {s : State} (hw : Memory.wf rxLen s.rx = true) (hl : s.rxFifo.length = rxLen) :
    Memory.load s.drain.rx 0 rxLen = s.rxFifo := by
  have h := Memory.load_store rxLen s.rx s.rxFifo (by omega) hw
  rw [hl] at h
  rw [State.drain_rx, List.take_of_length_le (by omega), h]

/-- What the routing of a receive frame leaves before the next state is taken (45_sequencer.md R241). -/
inductive Routed (s : State) : Instr → State → Prop
  | toSet (i : Instr) (h : s.lastSent = some .set) : Routed s i s
  | query (hdr q : List Byte) (h : s.lastSent ≠ some .set) : Routed s (.rQuery hdr q) (s.applyQuery q)
  | queryExt (hdr q : List Byte) (h : s.lastSent ≠ some .set) : Routed s (.rQueryExt hdr q) (s.applyQueryExt q)
  | set (hdr q : List Byte) : Routed s (.rSet hdr q) s
  | followMe (hdr q : List Byte) : Routed s (.rFollowMe hdr q) s
  | unknown (code : Byte) (hdr q : List Byte) : Routed s (.rUnknown code hdr q) (s.raise (.unknownResponse code))

/-- The instructions that are receive frames. -/
def Instr.isResponse (i : Instr) : Prop :=
  (∃ hdr q, i = .rQuery hdr q) ∨ (∃ hdr q, i = .rQueryExt hdr q) ∨ (∃ hdr q, i = .rSet hdr q) ∨
  (∃ hdr q, i = .rFollowMe hdr q) ∨ ∃ code hdr q, i = .rUnknown code hdr q

theorem decodeRx_isResponse {cfg : Config} {f : List Byte} {i : Instr} (h : decodeRx cfg f = .ok i) :
    Instr.isResponse i := by
  unfold decodeRx at h
  split at h
  · cases h
  · split at h
    · cases h
    · cases h
      unfold rxInstr Instr.isResponse
      split <;> simp

/-- Running a received frame is `exec` of it. -/
theorem runResponse_eq_exec {i : Instr} (h : Instr.isResponse i) (s : State) : runResponse i s = exec i s := by
  rcases h with ⟨_, _, rfl⟩ | ⟨_, _, rfl⟩ | ⟨_, _, rfl⟩ | ⟨_, _, rfl⟩ | ⟨_, _, _, rfl⟩ <;> rfl

/-- What a receive frame does when it answers a next state: routing, then the next send state. -/
theorem exec_response_next {i : Instr} (hi : Instr.isResponse i) {s t : State} (h : exec i s = .next t) :
    s.cfg.wf = true ∧ ∃ u p, Routed s i u ∧ u.afterSuccess = some p ∧ t = { u with state := .send p, pending := none } := by
  rcases hi with ⟨hdr, q, rfl⟩ | ⟨hdr, q, rfl⟩ | ⟨hdr, q, rfl⟩ | ⟨hdr, q, rfl⟩ | ⟨code, hdr, q, rfl⟩ <;>
    obtain ⟨hw, h⟩ := State.route_next h <;> refine ⟨hw, ?_⟩ <;> by_cases hs : s.lastSent = some .set
  all_goals first
    | rw [if_pos hs] at h
      obtain ⟨p, hp, ht⟩ := State.success_next h
      exact ⟨s, p, .toSet _ hs, hp, ht⟩
    | rw [if_neg hs] at h
      obtain ⟨p, hp, ht⟩ := State.success_next h
      first
        | exact ⟨_, p, .query hdr q hs, hp, ht⟩
        | exact ⟨_, p, .queryExt hdr q hs, hp, ht⟩
        | exact ⟨_, p, .set hdr q, hp, ht⟩
        | exact ⟨_, p, .followMe hdr q, hp, ht⟩
        | exact ⟨_, p, .unknown code hdr q, hp, ht⟩

/-- What `RECEIVE()` leaves before the next state is taken, and whether the exchange succeeded (R239-R241). -/
inductive Received (s : State) : State → Option SendState → Prop
  | length (h : s.rxFifo.length ≠ rxLen) :
      Received s (s.drain.raise (.len s.rxFifo.length)) (State.afterFailure (s.drain.raise (.len s.rxFifo.length)))
  | invalid (e : DecodeError) (hl : s.rxFifo.length = rxLen)
      (h : decodeRx s.cfg (Memory.load s.drain.rx 0 rxLen) = .error e) :
      Received s (s.drain.raiseReject e) (State.afterFailure (s.drain.raiseReject e))
  | valid (i : Instr) (u : State) (hl : s.rxFifo.length = rxLen)
      (h : decodeRx s.cfg (Memory.load s.drain.rx 0 rxLen) = .ok i) (hr : Routed s.drain i u) :
      Received s u u.afterSuccess

/-- What `RECEIVE()` does when it answers a next state (R239-R244). -/
theorem State.receive_next {s t : State} (h : s.receive = .next t) :
    ∃ u p, Received s u (some p) ∧ t = { u with state := .send p, pending := none } := by
  unfold State.receive at h
  split at h
  · next hl =>
    obtain ⟨p, hp, ht⟩ := State.failure_next h
    exact ⟨_, p, hp ▸ .length hl, ht⟩
  · next hl =>
    have hl : s.rxFifo.length = rxLen := by omega
    split at h
    · next i hi =>
      have hr := decodeRx_isResponse hi
      rw [runResponse_eq_exec hr] at h
      obtain ⟨-, u, p, hu, hp, ht⟩ := exec_response_next hr h
      exact ⟨u, p, hp ▸ .valid i u hl hi hu, ht⟩
    · next e he =>
      obtain ⟨p, hp, ht⟩ := State.failure_next h
      exact ⟨_, p, hp ▸ .invalid e hl he, ht⟩

/-- The interpreter touches the snapshot, the forced refresh, the telemetry and the output stream only. -/
theorem Routed.frame {s u : State} {i : Instr} (h : Routed s i u) :
    ∃ added, u = { s with snap := u.snap, forceRefresh := u.forceRefresh, tel := u.tel, out := s.out ++ added } := by
  cases h with
  | toSet => exact ⟨[], by simp⟩
  | query hdr q =>
    rw [State.applyQuery_eq, List.append_assoc, List.append_assoc]
    exact ⟨_, rfl⟩
  | queryExt hdr q =>
    rw [State.applyQueryExt_eq, List.append_assoc]
    exact ⟨_, rfl⟩
  | set => exact ⟨[], by simp⟩
  | followMe => exact ⟨[], by simp⟩
  | unknown code => exact ⟨_, rfl⟩

/-- What the receive step can touch (R239-R241). -/
theorem Received.frame {s u : State} {o : Option SendState} (h : Received s u o) :
    ∃ added, u = { s with
      rx := s.drain.rx, rxCount := s.drain.rxCount, rxFifo := [],
      snap := u.snap, forceRefresh := u.forceRefresh, tel := u.tel, out := s.out ++ added } := by
  cases h with
  | length => exact ⟨_, rfl⟩
  | invalid e => exact ⟨_, by rw [State.raiseReject_eq]; rfl⟩
  | valid i _ hl hd hr => exact hr.frame

/-- The effects a sent frame has of its own: none, or those of its follow-me kind (43_frames.md R189). -/
inductive FrameEffect (s : State) : Cmd → State → Prop
  | plain (c : Cmd) (h : c ≠ .followMe) : FrameEffect s c s
  | init : FrameEffect s .followMe
      { s with fmInit := true, fmLastReported := s.remote, fmChgArmed := false, fmLastMs := s.nowMs }
  | update : FrameEffect s .followMe
      { s with fmLastReported := s.remote, fmChgArmed := false, fmLastMs := s.nowMs }
  | static : FrameEffect s .followMe { s with fmKind := .temp, fmLastMs := s.nowMs }

/-- The instructions that are transmit frames. -/
def Instr.isTransmit (i : Instr) : Prop :=
  i = .query ∨ i = .queryExt ∨ (∃ m f temp sw p, i = .set m f temp sw p) ∨ (∃ temp, i = .fmInit temp) ∨
  (∃ temp, i = .fmUpdate temp) ∨ ∃ sp, i = .fmStatic sp

/-- Sending a built frame is `exec` of it. -/
theorem runTransmit_eq_exec {i : Instr} (h : Instr.isTransmit i) (s : State) : runTransmit i s = exec i s := by
  rcases h with rfl | rfl | ⟨_, _, _, _, _, rfl⟩ | ⟨_, rfl⟩ | ⟨_, rfl⟩ | ⟨_, rfl⟩ <;> rfl

/-- Every builder answers a transmit frame or a reason to skip. -/
theorem build_isTransmit {s : State} {target : SendState} {i : Instr} (h : build s target = .send i) :
    Instr.isTransmit i := by
  unfold Instr.isTransmit
  cases target with
  | sendQuery => cases h; simp
  | sendQueryExt => cases h; simp
  | sendSet =>
    simp only [build, buildSet] at h
    split at h
    · split at h <;> cases h; simp
    · cases h
  | sendFollowMe =>
    simp only [build] at h
    split at h
    · cases h; simp
    · unfold buildFollowMe at h
      split at h
      · cases h
      · split at h
        · cases h
        · split at h
          · cases h
          · cases h; split <;> simp

/-- What a transmit frame does under an admitted configuration (45_sequencer.md R237). -/
theorem exec_transmit {i : Instr} (hi : Instr.isTransmit i) (s : State) :
    ∃ c p u, p.length = 8 ∧ encode s.cfg i = .txFrame (encodeTx s.cfg c p) ∧ FrameEffect s c u ∧
      exec i s = whenAdmitted s (.next { u with
        tx := Memory.store s.tx 0 (encodeTx s.cfg c p)
        out := s.out ++
          [.txWrite (Memory.load (Memory.store s.tx 0 (encodeTx s.cfg c p)) 0 txLen), .txFlush]
        lastSent := some c
        state := .awaiting
        winArmed := true
        winCtr := s.cfg.windowMs }) := by
  rcases hi with rfl | rfl | ⟨m, f, temp, sw, p, rfl⟩ | ⟨temp, rfl⟩ | ⟨temp, rfl⟩ | ⟨sp, rfl⟩
  · exact ⟨.query, zero8, s, rfl, rfl, .plain _ (by decide), rfl⟩
  · exact ⟨.queryExt, zero8, s, rfl, rfl, .plain _ (by decide), rfl⟩
  · exact ⟨.set, setPayload s.cfg m f temp sw p, s, by simp, rfl, .plain _ (by decide), rfl⟩
  · exact ⟨.followMe, fmPayload s.cfg fmInitCode temp 0, _, by simp, rfl, .init, rfl⟩
  · exact ⟨.followMe, fmPayload s.cfg fmUpdateCode temp 0, _, by simp, rfl, .update, rfl⟩
  · exact ⟨.followMe, fmPayload s.cfg fmStaticCode 0 (spToRaw sp), _, by simp, rfl, .static, rfl⟩

/-- A tick that finds `AWAITING` only restarts the tick counter (R238). -/
theorem State.tick_awaiting (s : State) (ht : s.tickCtr + 1 = s.cfg.tickMs) (hs : s.state = .awaiting) :
    s.tick = .next { s with tickCtr := 0 } := by
  obtain ⟨_, _, state⟩ := s
  cases hs
  exact if_pos ht

/-- A tick that finds a send state sends (R235). -/
theorem State.tick_target (s : State) {target : SendState} (ht : s.tickCtr + 1 = s.cfg.tickMs)
    (hs : s.state = .send target) : s.tick = State.send { s with tickCtr := 0 } target := by
  obtain ⟨_, _, state⟩ := s
  cases hs
  exact if_pos ht

/-- A tick whose builder skips (R251). -/
theorem State.tick_skip (s : State) {target : SendState} {reason : SkipReason} (ht : s.tickCtr + 1 = s.cfg.tickMs)
    (hs : s.state = .send target) (hb : build { s with tickCtr := 0 } target = .skip reason) :
    s.tick = .next { s with tickCtr := 0, state := .send .sendQuery, out := s.out ++ reason.log target } := by
  rw [s.tick_target ht hs, State.send, hb]
  exact congrArg _ (State.skipped_eq _ _ _)

/-- A tick whose builder sends runs the frame (R237). -/
theorem State.tick_send (s : State) {target : SendState} {i : Instr} (ht : s.tickCtr + 1 = s.cfg.tickMs)
    (hs : s.state = .send target) (hb : build { s with tickCtr := 0 } target = .send i) :
    s.tick = exec i { s with tickCtr := 0 } := by
  rw [s.tick_target ht hs, State.send, hb]
  exact runTransmit_eq_exec (build_isTransmit hb) _

/-- What a tick does (R235-R238, R251). -/
theorem State.tick_cases (s : State) :
    (s.tickCtr + 1 ≠ s.cfg.tickMs ∧ s.tick = .next { s with tickCtr := s.tickCtr + 1 }) ∨
    (s.tickCtr + 1 = s.cfg.tickMs ∧ s.state = .awaiting ∧ s.tick = .next { s with tickCtr := 0 }) ∨
    (∃ target reason, s.tickCtr + 1 = s.cfg.tickMs ∧ s.state = .send target ∧
      build { s with tickCtr := 0 } target = .skip reason ∧
      s.tick = .next { s with tickCtr := 0, state := .send .sendQuery, out := s.out ++ reason.log target }) ∨
    (∃ target i, s.tickCtr + 1 = s.cfg.tickMs ∧ s.state = .send target ∧
      build { s with tickCtr := 0 } target = .send i ∧ Instr.isTransmit i ∧
      s.tick = exec i { s with tickCtr := 0 }) := by
  by_cases ht : s.tickCtr + 1 = s.cfg.tickMs
  · right
    cases hs : s.state with
    | awaiting => exact .inl ⟨ht, rfl, hs ▸ s.tick_awaiting ht hs⟩
    | send target =>
      right
      rw [← hs]
      cases hb : build { s with tickCtr := 0 } target with
      | skip reason => exact .inl ⟨target, reason, ht, hs, hb, s.tick_skip ht hs hb⟩
      | send i => exact .inr ⟨target, i, ht, hs, hb, build_isTransmit hb, s.tick_send ht hs hb⟩
  · left
    exact ⟨ht, by unfold State.tick; rw [if_neg ht]⟩

/-- `MS` that answers a next state: a window, the scheduler, a tick, under an admitted configuration (R231). -/
theorem execMs_next {s t : State} (h : exec .ms s = .next t) :
    s.cfg.wf = true ∧ ∃ w, s.tickTime.window = .next w ∧ w.schedule.tick = .next t := by
  obtain ⟨hw, h⟩ := whenAdmitted_next h
  exact ⟨hw, andThen_next h⟩

/-- What the scheduler can touch (R234). -/
theorem State.schedule_frame (s : State) :
    s.schedule = { s with
      fmLastMs := s.schedule.fmLastMs, fmChgArmed := s.schedule.fmChgArmed,
      state := s.schedule.state, pending := s.schedule.pending } ∧
    (s.schedule.state = .awaiting ↔ s.state = .awaiting) ∧
    (s.state ≠ .awaiting → s.schedule.pending = s.pending) := by
  rcases s.schedule_cases with ⟨-, h⟩ | ⟨-, h⟩
  · rw [h]; simp
  · rw [h, State.request_eq]
    split
    · next ha => simp at ha; simp [ha]
    · next ha => simp at ha; simp [ha]

/-! ## Runs -/

/-- A run of one step more begins with a step. -/
theorem run_succ (M : Host.Core) {k : Nat} {s t : M.State} (h : M.step s = .next t) : M.run (k + 1) s = M.run k t := by
  simp [Host.Core.run, h]

/-- What a run of one step more does when it answers a next state. -/
theorem run_succ_next (M : Host.Core) {k : Nat} {s u : M.State} (h : M.run (k + 1) s = .next u) :
    ∃ t, M.step s = .next t ∧ M.run k t = .next u := by
  simp only [Host.Core.run] at h
  split at h
  · next t ht => exact ⟨t, ht, h⟩
  · cases h
  · cases h

theorem reaches_zero (s : State) : reaches 0 s s := rfl

/-- A step and then a run. -/
theorem reaches_step {k : Nat} {s t u : State} (h : step s = .next t) (hr : reaches k t u) : reaches (k + 1) s u :=
  (run_succ Sys2Proof.core h).trans hr

/-- One run after another. -/
theorem reaches_add {k j : Nat} : ∀ {s t u : State}, reaches k s t → reaches j t u → reaches (k + j) s u := by
  induction k with
  | zero => intro s t u h hr; cases h; rw [Nat.zero_add]; exact hr
  | succ k ih =>
    intro s t u h hr
    obtain ⟨v, hv, h⟩ := run_succ_next Sys2Proof.core h
    rw [Nat.succ_add]
    exact reaches_step hv (ih h hr)

end Sys2Proof.Machine
end

