-- ==== Sys2Proof/Tests/Slice0.lean ====
section
/-! SUPPORT. The model's own tests. Expected values are the vectors of 95_test_vectors.md (named in each comment) or hand calculation from the rule named; `witness_…` theorems show a state and operands that meet a statement's hypotheses. -/

namespace Sys2Proof.Tests

open Sys2Proof Sys2Proof.Machine

/-! ## Helpers -/

/-- The next state, if there is one. -/
def nextState? : Host.Outcome State Fault Refusal → Option State
  | .next s => some s
  | .fault _ => none
  | .refused _ => none

/-- The fault, if there is one. -/
def fault? : Host.Outcome State Fault Refusal → Option Fault
  | .next _ => none
  | .fault r => some r
  | .refused _ => none

/-- The refusal, if there is one. -/
def refusal? : Host.Outcome State Fault Refusal → Option Refusal
  | .next _ => none
  | .fault _ => none
  | .refused r => some r

/-- What one field of the next state is. -/
def after {α : Type} (o : Host.Outcome State Fault Refusal) (f : State → α) : Option α := (nextState? o).map f

/-- `n` zero bytes. -/
def zeros (n : Nat) : List Byte := List.replicate n 0

/-- The payload of `RQ_HEAT` (95_test_vectors.md). -/
def qHeat : List Byte :=
  [0, 0, 0x84, 0x80, 0x58, 0x54, 0x50, 0x4E, 0x3C, 0x05, 0, 0x09, 0, 0, 0x04] ++ zeros 9

/-- The frame `RQ_HEAT`. -/
def frameHeat : List Byte := [0xAA, 0xC0] ++ zeros 4 ++ qHeat ++ [0xA4, 0x55]

/-- The payload of `RQ_OFF20`. -/
def qOff20 : List Byte := [0, 0, 0x00, 0x80, 0x50, 0x54, 0x50, 0x4E, 0x3C] ++ zeros 15

/-- The payload of `RE_1`. -/
def qExt : List Byte := zeros 4 ++ [0x58, 0x3C, 0xA7] ++ zeros 17

/-- The frame `R_SET0`. -/
def frameSet0 : List Byte := [0xAA, 0xC3] ++ zeros 28 ++ [0x3D, 0x55]

/-- The frame `R_UNK12`. -/
def frameUnk12 : List Byte := [0xAA, 0x12] ++ zeros 28 ++ [0xEE, 0x55]

/-- After reset, with a mode held. -/
def withMode (m : Mode) : State := { State.reset with snap := { Snapshot.empty with mode := some m } }

/-- Every field a set frame carries is known. -/
def known : State :=
  { State.reset with snap := ⟨some .heat, some .low, some 30, some true, some .boost, none, none⟩ }

/-- A query was sent `100 - n` milliseconds ago; `n` remain. -/
def waiting (n : U32) : State :=
  { State.reset with
    state := .awaiting, lastSent := some .query, winArmed := true, winCtr := n, tickCtr := 100 - n }

/-- The next millisecond closes the window over these bytes. -/
def closing (bytes : List Byte) : State := { waiting 1 with rxFifo := bytes }

/-- The next millisecond is a tick in this send state. -/
def ticking (s : State) (target : SendState) : State := { s with state := .send target, tickCtr := 999 }

/-- A reading held and its change trigger armed for 4000 ms. -/
def armed : State :=
  { withMode .cool with remote := some 23, fmLastMs := 3000, fmChgArmed := true, fmChgDeadline := 4000 }

/-- The state with one transaction waiting. -/
def offered (s : State) (p : Port) (c : Call) : State := { s with inbox := [⟨p, c⟩] }

/-! ## Configurations: each named check refuses a configuration that fails it, and only that one does -/

theorem test_refcfg_is_admitted : Config.ref.wf = true := by decide
theorem test_wf_codes : ({ Config.ref with cmdSet := 0xC0 }).wfCodes = false := by decide
theorem test_wf_set_offs : ({ Config.ref with setOff := ⟨6, 7, 8, 9, 10, 14⟩ }).wfSetOffs = false := by decide
theorem test_wf_fm_offs : ({ Config.ref with fmOff := ⟨10, 10, 11⟩ }).wfFmOffs = false := by decide
theorem test_wf_rxq_offs : ({ Config.ref with rxq := { Config.ref.rxq with prot := 23 } }).wfRxqOffs = false := by decide
theorem test_wf_rxe_offs : ({ Config.ref with rxe := ⟨11, 12, 30⟩ }).wfRxeOffs = false := by decide
theorem test_wf_mode_table :
    ({ Config.ref with modeCode := { Config.ref.modeCode with heat := 0x88 } }).wfModeTable = false := by decide
theorem test_wf_fan_table : ({ Config.ref with fanDecode := [] }).wfFanTable = false := by decide
theorem test_wf_flags : ({ Config.ref with ecoMask := 0x06 }).wfFlags = false := by decide
theorem test_wf_timer :
    ({ Config.ref with timerBuckets := #v[some 15, some 30, some 60, some 0, none, none, none, none] }).wfTimer
      = false := by decide
theorem test_wf_timing : ({ Config.ref with windowMs := 1000 }).wfTiming = false := by decide
theorem test_wf_fmap : ({ Config.ref with tempUnit := .fahrenheit }).wfFmap = false := by decide
theorem test_wf_heat_flag : ({ Config.ref with heatFlagOffset := 5 }).wfHeatFlag = false := by decide

/-- An instruction whose receive frame has a wrong length, or whose unknown code names a command, is ill-formed. -/
theorem test_wf_instr :
    Instr.wf Config.ref (.rQuery (zeros 3) (zeros 24)) = false ∧
    Instr.wf Config.ref (.rQueryExt (zeros 4) (zeros 25)) = false ∧
    Instr.wf Config.ref (.rUnknown 0xC4 (zeros 4) (zeros 24)) = false ∧
    Instr.wf Config.ref (.rUnknown 0x12 (zeros 4) (zeros 24)) = true := by decide

/-! ## Decoding: one word of every row, written out from 43_frames.md and 30_encoding.md R80-R93 -/

theorem test_decode_query :
    decode Config.ref (.txFrame ([0xAA, 0xC0] ++ zeros 12 ++ [0x40, 0x55])) = .ok .query := by decide
theorem test_decode_query_ext :
    decode Config.ref (.txFrame ([0xAA, 0xC4] ++ zeros 12 ++ [0x3C, 0x55])) = .ok .queryExt := by decide
/-- The set of program P4. -/
theorem test_decode_set :
    decode Config.ref
      (.txFrame [0xAA, 0xC3, 0, 0, 0, 0, 0x80, 0x01, 0x52, 0x01, 0, 0, 0, 0, 0x69, 0x55]) =
      .ok (.set .auto .high 0x52 false .sleep) := by decide
/-- The follow-me frames of programs P2 and P3. -/
theorem test_decode_fm_init :
    decode Config.ref (.txFrame [0xAA, 0xC6, 0, 0, 0, 0, 0, 0, 0x56, 0, 0x06, 0, 0, 0, 0xDE, 0x55]) =
      .ok (.fmInit 0x56) := by decide
theorem test_decode_fm_update :
    decode Config.ref (.txFrame [0xAA, 0xC6, 0, 0, 0, 0, 0, 0, 0x57, 0, 0x02, 0, 0, 0, 0xE1, 0x55]) =
      .ok (.fmUpdate 0x57) := by decide
theorem test_decode_fm_static :
    decode Config.ref (.txFrame [0xAA, 0xC6, 0, 0, 0, 0, 0, 0, 0, 0, 0x04, 0x09, 0, 0, 0x2D, 0x55]) =
      .ok (.fmStatic 9) := by decide
theorem test_decode_r_query :
    decode Config.ref (.rxFrame frameHeat) = .ok (.rQuery (zeros 4) qHeat) := by decide
theorem test_decode_r_query_ext :
    decode Config.ref (.rxFrame ([0xAA, 0xC4] ++ zeros 4 ++ qExt ++ [0x01, 0x55])) =
      .ok (.rQueryExt (zeros 4) qExt) := by decide
/-- Vector L1-2: header bytes are covered by the checksum and not checked. -/
theorem test_decode_r_set :
    decode Config.ref (.rxFrame ([0xAA, 0xC3, 0x5A, 0xA5] ++ zeros 26 ++ [0x3E, 0x55])) =
      .ok (.rSet [0x5A, 0xA5, 0, 0] (zeros 24)) := by decide
theorem test_decode_r_follow_me :
    decode Config.ref (.rxFrame ([0xAA, 0xC6] ++ zeros 28 ++ [0x3A, 0x55])) =
      .ok (.rFollowMe (zeros 4) (zeros 24)) := by decide
theorem test_decode_r_unknown :
    decode Config.ref (.rxFrame frameUnk12) = .ok (.rUnknown 0x12 (zeros 4) (zeros 24)) := by decide
/-- The six events on their ports (10_state.md R38). -/
theorem test_decode_events :
    decode Config.ref (.transaction ⟨.reset, .reset⟩) = .ok .reset ∧
    decode Config.ref (.transaction ⟨.ms, .ms⟩) = .ok .ms ∧
    decode Config.ref (.transaction ⟨.host, .control ⟨none, .exact none, none, none, none⟩⟩) =
      .ok (.control ControlReq.empty) ∧
    decode Config.ref (.transaction ⟨.host, .staticPressure 9⟩) = .ok (.staticPressure 9) ∧
    decode Config.ref (.transaction ⟨.sensor, .remoteTemp (.exact none)⟩) = .ok (.remoteTemp none) ∧
    decode Config.ref (.transaction ⟨.rx, .rxAppend [0xAA]⟩) = .ok (.rx [0xAA]) := by decide

/-- Rejections by name: the corruptions of L1-3, a wrong length, a code and a subcommand never sent, a wrong identifier,
a payload no layout gives, a transaction on another port. -/
theorem test_decode_rejects :
    decodeRx Config.ref (frameSet0.set 0 0xAB) = .error (.badPreamble 0xAB) ∧
    decodeRx Config.ref (frameSet0.set 2 0x80) = .error (.badChecksum 0xBD 0x3D) ∧
    decodeRx Config.ref (frameSet0.set 30 0xBD) = .error (.badChecksum 0x3D 0xBD) ∧
    decodeRx Config.ref (frameSet0.set 31 0x15) = .error (.badMarker 0x15) ∧
    decodeRx Config.ref (zeros 31) = .error (.badLength 31) ∧
    decodeTx Config.ref ([0xAA, 0x12] ++ zeros 12 ++ [0xEE, 0x55]) = .error (.badCommand 0x12) ∧
    decodeTx Config.ref ([0xAA, 0xC6] ++ zeros 12 ++ [0x3A, 0x55]) = .error (.badSubcommand 0) ∧
    decodeTx Config.ref ([0xAA, 0xC0, 1] ++ zeros 11 ++ [0x3F, 0x55]) = .error .badIdentifier ∧
    decodeTx Config.ref ([0xAA, 0xC0] ++ zeros 11 ++ [1, 0x3F, 0x55]) = .error (.badPayload (zeros 7 ++ [1])) ∧
    decodeTransaction Config.ref ⟨.sensor, .ms⟩ = .error (.badPort .sensor) := by decide

/-- A table word is read with byte 0 in its lowest bits, and, written the other way about, all the same (entry 14). -/
theorem test_decode_table_word :
    decodeTableWord 128 0x5540000000000000000000000000C0AA = some .query ∧
    decodeTableWord 128 0xAAC00000000000000000000000004055 = some .query ∧
    decodeTableWord 256 0x553D00000000000000000000000000000000000000000000000000000000C3AA =
      some (.rSet (zeros 4) (zeros 24)) ∧
    decodeTableWord 128 0 = none ∧ decodeTableWord 8 0xAA = none := by decide

/-! ## Values: L1-1, L1-4, L1-9, L2-1 to L2-4 -/

theorem test_checksum :
    sum8 ([0xAA, 0xC0] ++ zeros 12 ++ [0x40, 0x55]) 14 = 0xBF ∧
    checksum ([0xAA, 0xC0] ++ zeros 12 ++ [0x40, 0x55]) 14 = 0x40 := by decide
theorem test_to_celsius :
    toCelsius 0x00 = -20 ∧ toCelsius 0x29 = 1 / 2 ∧ toCelsius 0x55 = 45 / 2 ∧ toCelsius 0xFF = 215 / 2 := by
  decide +kernel
theorem test_from_celsius :
    fromCelsius (71 / 4) = some 0x4C ∧ fromCelsius (89 / 4) = some 0x55 ∧ fromCelsius (556 / 25) = some 0x54 ∧
    fromCelsius (-1 / 4) = some 0x28 ∧ fromCelsius (-20) = some 0 ∧ fromCelsius (-81 / 4) = none ∧
    fromCelsius (215 / 2) = some 0xFF ∧ fromCelsius (431 / 4) = none := by decide +kernel
theorem test_timer :
    timerDecode Config.ref 0x09 = 135 ∧ timerDecode Config.ref 0x80 = 0 ∧ timerDecode Config.ref 0xFF = 1905 ∧
    timerEncode Config.ref 135 = 0x09 ∧ timerEncode Config.ref 7 = 0 ∧ timerEncode Config.ref 1906 = 0x7F := by
  decide +kernel
theorem test_modes :
    correctedMode Config.ref 0x01 = some .off ∧ correctedMode Config.ref 0x10 = some .auto ∧
    correctedMode Config.ref 0x88 = some .cool ∧ correctedMode Config.ref 0x8C = none ∧
    decodeFan Config.ref 0x04 = some .low ∧ decodeFan Config.ref 0x81 = none := by decide
/-- Swing and preset: auxiliary heat wins over eco (42_mapper.md R156). -/
theorem test_flags :
    decodePreset Config.ref 0x03 = .boost ∧ decodeSwing Config.ref 0x03 = false ∧
    encodeFlags Config.ref true .sleep = 0x05 := by decide
/-- Bytes `34 12` at an offset are `0x1234` least significant byte first, `0x3412` the other way (L2-1). -/
theorem test_word_order :
    wordAt Config.ref (zeros 16 ++ [0x34, 0x12] ++ zeros 6) 22 = 0x1234 ∧
    wordAt { Config.ref with wordOrder := .be } (zeros 16 ++ [0x34, 0x12] ++ zeros 6) 22 = 0x3412 := by decide
/-- The capability descriptor and the severities (10_state.md R48; 60_exceptions.md R281). -/
theorem test_constants :
    capability.visualMin = 17 ∧ capability.visualMax = 30 ∧ capability.visualStep = 1 ∧ capability.modes.length = 6 ∧
    (LogRecord.spRange 16).code.severity = .warn ∧ (LogRecord.len 0).code.severity = .error := by decide +kernel
/-- The textual form (30_encoding.md R106) and the pseudo-events. -/
theorem test_text :
    hexFrame [0xAA, 0xC0, 0x40, 0x55] = "AA C0 40 55" ∧ (waiting 3).waitWindow.length = 3 ∧
    State.reset.waitWindow = [] := by decide

/-! ## Buffers -/

theorem test_memory :
    Memory.read (Memory.store [] 0 [0xAA, 0, 0x40]) 2 = 0x40 ∧ Memory.read [] 5 = 0 ∧
    Memory.store (Memory.store [] 0 [1, 2]) 0 [0, 3] = [(1, 3)] ∧ Memory.wf txLen [(1, 3)] = true ∧
    Memory.wf txLen [(1, 3), (0, 3)] = false ∧ Memory.wf txLen [(1, 0)] = false ∧
    Memory.wf txLen [(16, 1)] = false := by decide

/-! ## One step of every instruction -/

/-- The bytes of the frame, the flush, and the armed window (45_sequencer.md R237). -/
theorem test_query :
    after (exec .query State.reset) (fun t => (t.out, t.state, t.lastSent, t.winArmed, t.winCtr)) =
      some ([.txWrite ([0xAA, 0xC0] ++ zeros 12 ++ [0x40, 0x55]), .txFlush], .awaiting, some .query, true, 100) := by
  decide +kernel
theorem test_query_ext :
    after (exec .queryExt State.reset) (fun t => (Memory.read t.tx 1, Memory.read t.tx 14, t.lastSent)) =
      some (0xC4, 0x3C, some .queryExt) := by decide +kernel
/-- Vector L2-5: HEAT, low, 30, swing, boost. -/
theorem test_set :
    after (exec (.set .heat .low 0x64 true .boost) State.reset) (fun t => framesOf t.out) =
      some [[0xAA, 0xC3, 0, 0, 0, 0, 0x84, 0x04, 0x64, 0x06, 0, 0, 0, 0, 0x4B, 0x55]] := by decide +kernel
/-- Sending `FM_INIT` initializes the session, reports the reading and disarms the trigger (43_frames.md R189). -/
theorem test_fm_init :
    after (exec (.fmInit 0x56) { State.reset with remote := some 23, fmChgArmed := true, nowMs := 4000 })
      (fun t => (t.fmInit, t.fmLastReported, t.fmChgArmed, t.fmLastMs)) = some (true, some 23, false, 4000) := by
  decide +kernel
theorem test_fm_update :
    after (exec (.fmUpdate 0x57) State.reset) (fun t => (t.fmInit, Memory.read t.tx 10, Memory.read t.tx 8)) =
      some (false, 0x02, 0x57) := by decide +kernel
/-- The value is kept, the kind is restored (L2-7g). -/
theorem test_fm_static :
    after (exec (.fmStatic 9) { withMode .off with fmKind := .staticPressure, fmSp := 9 })
      (fun t => (t.fmKind, t.fmSp, Memory.read t.tx 11)) = some (.temp, 9, 0x09) := by decide +kernel
/-- `RQ_HEAT` after reset (L2-6a): the action is not known yet; ten outputs, the last a notification. -/
theorem test_r_query :
    after (exec (.rQuery (zeros 4) qHeat) (waiting 0)) (fun t => (t.snap, t.out.length, t.state)) =
      some (⟨some .heat, some .auto, some 24, some true, some .none, none, some 22⟩, 10, .send .sendQueryExt) := by
  decide +kernel
/-- `RQ_OFF20` with the forced refresh done: the target is withheld, the rest applied (L2-6c). -/
theorem test_r_query_off :
    after (exec (.rQuery (zeros 4) qOff20)
        { waiting 0 with forceRefresh := false, snap := { Snapshot.empty with target := some 25 } })
      (fun t => (t.snap.mode, t.snap.target, t.tel.coil3)) = some (some .off, some 25, some 10) := by decide +kernel
/-- `RE_1` (L2-6f). -/
theorem test_r_query_ext :
    after (exec (.rQueryExt (zeros 4) qExt) (waiting 0)) (fun t => (t.out, t.snap)) =
      some ([.publish (.outdoor 10), .publish (.staticPressure 7)], Snapshot.empty) := by decide +kernel
theorem test_r_query_ext_refresh :
    after (exec (.rQueryExt (zeros 4) qExt) { waiting 0 with cfg := { Config.ref with extTargetRefresh := true } })
      (fun t => (t.snap.target, t.out.length)) = some (some 24, 3) := by decide +kernel
/-- Nothing is read; the pending command is next and the slot is emptied (R214, R242). -/
theorem test_r_set :
    after (exec (.rSet (zeros 4) (zeros 24)) { waiting 0 with pending := some .sendSet })
      (fun t => (t.state, t.pending, t.out)) = some (.send .sendSet, none, []) := by decide
theorem test_r_follow_me :
    after (exec (.rFollowMe (zeros 4) (zeros 24)) { waiting 0 with lastSent := some .followMe })
      (fun t => (t.state, t.snap)) = some (.send .sendQuery, Snapshot.empty) := by decide
theorem test_r_unknown :
    after (exec (.rUnknown 0x12 (zeros 4) (zeros 24)) (waiting 0)) (fun t => (logsOf t.out, t.state)) =
      some ([.unknownResponse 0x12], .send .sendQueryExt) := by decide
/-- `RESET` in an exchange: the exchange is abandoned, the FIFO kept (70_reset_and_hazards.md R314). -/
theorem test_reset :
    after (exec .reset (closing [1, 2])) (fun t => (t.state, t.winArmed, t.rxFifo, t.forceRefresh)) =
      some (.send .sendQuery, false, [1, 2], true) := by decide
theorem test_reset_refuses :
    refusal? (exec .reset { State.reset with cfgIn := { Config.ref with windowMs := 0 } }) =
      some .configNotAdmitted := by decide
/-- The tick of program P2 at 3000 ms. -/
theorem test_ms_tick :
    after (exec .ms (ticking { State.reset with
        snap := ⟨some .heat, some .auto, some (45 / 2), some false, some .none, none, none⟩ } .sendSet))
      (fun t => (framesOf t.out, t.tickCtr, t.nowMs)) =
      some ([[0xAA, 0xC3, 0, 0, 0, 0, 0x84, 0x80, 0x55, 0, 0, 0, 0, 0, 0xE4, 0x55]], 0, 1) := by decide +kernel
/-- L2-7b: 33 bytes are all drained and counted, nothing is applied. -/
theorem test_ms_window :
    after (exec .ms (closing (frameHeat ++ [0])))
      (fun t => (t.rxCount, t.rxFifo, logsOf t.out, t.snap, t.state)) =
      some (33, [], [.len 33], Snapshot.empty, .send .sendQuery) := by decide +kernel
/-- P2 at 2000 ms: an optimistic merge, the session ended, the request pending. -/
theorem test_control :
    after (exec (.control ⟨some .heat, some (45 / 2), none, none, none⟩)
        { waiting 50 with fmInit := true, snap := ⟨some .cool, some .auto, some 24, none, none, none, none⟩ })
      (fun t => (t.snap, t.fmInit, t.pending, t.state)) =
      some (⟨some .heat, some .auto, some (45 / 2), none, none, none, none⟩, false, some .sendSet, .awaiting) := by
  decide +kernel
/-- L2-7e: a target of 200 rejects the whole request. -/
theorem test_control_rejected :
    after (exec (.control ⟨some .cool, some 200, none, none, none⟩) State.reset)
      (fun t => (logsOf t.out, t.snap, t.state)) =
      some ([.tempRangeRequest 200], Snapshot.empty, .send .sendQuery) := by decide +kernel
/-- L2-7g. -/
theorem test_static_pressure :
    after (exec (.staticPressure 9) { withMode .off with state := .send .sendQueryExt })
      (fun t => (t.fmKind, t.fmSp, t.state)) = some (.staticPressure, 9, .send .sendFollowMe) := by decide
theorem test_static_pressure_rejected :
    after (exec (.staticPressure 16) (withMode .off)) (fun t => logsOf t.out) = some [.spRange 16] ∧
    after (exec (.staticPressure 9) (withMode .cool)) (fun t => logsOf t.out) = some [.spNotOff 9] := by decide
/-- L2-7h and L2-7i: the deadline wraps; an armed trigger keeps it. -/
theorem test_remote_temp :
    after (exec (.remoteTemp (some 23)) { State.reset with nowMs := 0xFFFFFC18 })
      (fun t => (t.remote, t.fmChgArmed, t.fmChgDeadline)) = some (some 23, true, 4000) := by decide +kernel
theorem test_remote_temp_armed :
    after (exec (.remoteTemp (some 24))
        { State.reset with remote := some 23, fmChgArmed := true, fmChgDeadline := 6100, nowMs := 2000 })
      (fun t => (t.remote, t.fmChgDeadline)) = some (some 24, 6100) := by decide +kernel
theorem test_rx :
    after (exec (.rx [3, 4]) { State.reset with rxFifo := [1] }) (fun t => (t.rxFifo, t.out)) =
      some ([1, 3, 4], []) := by decide

/-! ## The step, and a frame placed as the first instruction after reset -/

theorem test_step_takes_the_oldest :
    after (step { State.reset with inbox := [⟨.host, .staticPressure 16⟩, ⟨.ms, .ms⟩] })
      (fun t => (logsOf t.out, t.inbox, t.nowMs)) = some ([.spRange 16], [⟨.ms, .ms⟩], 0) := by decide
theorem test_step_refuses_a_stranger :
    refusal? (step (offered State.reset .tel .ms)) = some (.unknownTransaction .tel) := by decide
/-- The set frame of L2-5 as a table word: the next step transmits exactly it. -/
theorem test_placed_set_runs :
    after (step (State.reset.withFetchWord 128 0x554B000000000664048400000000C3AA)) (fun t => framesOf t.out) =
      some [[0xAA, 0xC3, 0, 0, 0, 0, 0x84, 0x04, 0x64, 0x06, 0, 0, 0, 0, 0x4B, 0x55]] := by decide +kernel
/-- `R_UNK12` as a table word: the next step receives exactly it. -/
theorem test_placed_response_runs :
    after (step (State.reset.withFetchWord 256
        0x55EE0000000000000000000000000000000000000000000000000000000012AA))
      (fun t => (logsOf t.out, t.rxCount)) = some ([.unknownResponse 0x12], 32) := by decide +kernel
/-- The first exchange of program P3, by hand at its boundary: the window closes over nothing, then the scheduler and
the tick act on the state it leaves (45_sequencer.md R231, R240). -/
theorem test_silent_unit :
    after (step (closing [])) (fun t => (logsOf t.out, t.state, t.tickCtr, t.forceRefresh)) =
      some ([.len 0], .send .sendQuery, 100, true) := by decide +kernel

/-! ## Witnesses: for each statement with hypotheses, states and operands that meet them -/

theorem witness_buffers : State.reset.BuffersWf := ⟨rfl, rfl⟩
theorem witness_buffers_closing (bytes : List Byte) : (closing bytes).BuffersWf := ⟨rfl, rfl⟩

/-- The invariants hold while a response is awaited. -/
theorem witness_inv_waiting (n : U32) : (waiting n).Inv :=
  ⟨(fun h => absurd rfl h), ⟨fun _ => rfl, fun _ => rfl⟩, (fun _ h => nomatch h), (fun h => nomatch h)⟩

theorem witness_timing_waiting : (waiting 1).TimingWf ∧ (waiting 100).TimingWf :=
  ⟨⟨by decide, fun _ => by decide, fun _ => by decide⟩, ⟨by decide, fun _ => by decide, fun _ => by decide⟩⟩

/-- The invariants hold in a send state. -/
theorem witness_inv_reset : State.reset.Inv ∧ State.reset.TimingWf ∧ State.reset.noInput ∧ State.reset.remote = none :=
  ⟨⟨(fun h => absurd rfl h), ⟨(fun h => nomatch h), (fun h => nomatch h)⟩, (fun h => nomatch h), (fun h => nomatch h)⟩,
    ⟨by decide, (fun h => nomatch h), (fun h => nomatch h)⟩, rfl, rfl⟩

/-- For `DecodeOfEncodeIsIdentity`. -/
theorem witness_decode_of_encode :
    Config.ref.wf = true ∧ Instr.wf Config.ref (.set .off .high 0xFF true .sleep) = true ∧
    Instr.wf Config.ref (.rUnknown 0x12 (zeros 4) (zeros 24)) = true ∧
    Instr.wf Config.ref (.rQuery (zeros 4) qHeat) = true := by decide

/-- For `DecodedFramesAreEncodings` and `ReceiveFramesRoundTripAndDetectOneBitErrors`: frames that decode, and the first,
last, checksum and an inner byte with one bit flipped. -/
theorem witness_decoded_frames :
    (decodeTx Config.ref ([0xAA, 0xC0] ++ zeros 12 ++ [0x40, 0x55])).toOption = some .query ∧
    (decodeRx Config.ref frameSet0).toOption = some (.rSet (zeros 4) (zeros 24)) ∧
    decodeRx Config.ref (frameSet0.set 0 (frameSet0.getD 0 0 ^^^ BitVec.twoPow 8 0)) = .error (.badPreamble 0xAB) ∧
    decodeRx Config.ref (frameSet0.set 31 (frameSet0.getD 31 0 ^^^ BitVec.twoPow 8 6)) = .error (.badMarker 0x15) ∧
    decodeRx Config.ref (frameSet0.set 30 (frameSet0.getD 30 0 ^^^ BitVec.twoPow 8 7)) =
      .error (.badChecksum 0x3D 0xBD) ∧
    decodeRx Config.ref (frameSet0.set 1 (frameSet0.getD 1 0 ^^^ BitVec.twoPow 8 0)) =
      .error (.badChecksum 0x3E 0x3D) := by decide

/-- For `ChecksumLaws`: the last index of a frame. -/
theorem witness_checksum : 15 < ([0xAA, 0xC0] ++ zeros 12 ++ [0x40, 0x55]).length := by decide

/-- For `TemperatureTransformIsHalfDegreeExact`: both ends of 17 to 30. -/
theorem witness_temperature :
    fromCelsius 17 = some 0x4A ∧ fromCelsius 30 = some 0x64 ∧ (17 : Rat) ≤ 17 ∧ (30 : Rat) ≤ 30 := by decide +kernel

/-- For `TimerBucketsRoundTrip`: both ends, and the spec's own value. -/
theorem witness_timer : 0 % 15 = 0 ∧ 1905 % 15 = 0 ∧ 1905 ≤ 1905 ∧ 135 % 15 = 0 := by decide

/-- For `MapperLaws`. -/
theorem witness_mapper :
    Config.ref.wf = true ∧ Config.ref.modeCode.off &&& Config.ref.autoAux = 0 ∧ Config.ref.tempUnit = .celsius := by
  decide

/-- For the four statements that a frame is sent. -/
theorem witness_sent : State.reset.cfg.wf = true ∧ State.reset.BuffersWf := ⟨by decide, rfl, rfl⟩

/-- For `SetBuilderReadsTheSnapshot`: an incomplete snapshot, a target that encodes, one that does not. -/
theorem witness_set_builder :
    State.reset.snap.complete = false ∧ known.snap.complete = true ∧
    targetToRaw Config.ref known.snap.target = some 0x64 ∧ targetToRaw Config.ref (some (431 / 4)) = none := by
  decide +kernel

/-- For `FollowMeBuilderChoosesTheFrame`: OFF and unknown, no reading, a reading that does not encode, one that does. -/
theorem witness_follow_me_builder :
    build State.reset .sendFollowMe = .skip .suppressed ∧ build (withMode .off) .sendFollowMe = .skip .suppressed ∧
    build (withMode .cool) .sendFollowMe = .skip .noReading ∧
    build { withMode .cool with remote := some 200 } .sendFollowMe = .skip .tempRange ∧
    build { withMode .cool with remote := some 23 } .sendFollowMe = .send (.fmInit 0x56) ∧
    build { withMode .cool with remote := some 23, fmInit := true } .sendFollowMe = .send (.fmUpdate 0x56) ∧
    build { withMode .off with fmKind := .staticPressure, fmSp := 15 } .sendFollowMe = .send (.fmStatic 15) := by
  decide +kernel

/-- For `StepRunsTheWaitingTransaction`. -/
theorem witness_step :
    (offered State.reset .rx (.rxAppend [1])).inbox = ⟨.rx, .rxAppend [1]⟩ :: [] ∧
    encode Config.ref (.rx [1]) = .transaction ⟨.rx, .rxAppend [1]⟩ ∧
    (offered State.reset .sensor (.remoteTemp (.formatted 7))).inbox = ⟨.sensor, .remoteTemp (.formatted 7)⟩ :: [] ∧
    (offered State.reset .host (.control ⟨some .cool, .formatted 7, none, none, none⟩)).inbox =
      ⟨.host, .control ⟨some .cool, .formatted 7, none, none, none⟩⟩ :: [] := ⟨rfl, rfl, rfl, rfl⟩

/-- For `MapperReadsItsTablesAndBits`: a byte that R151 corrects (R151's example `0x10`), one that
decodes to OFF without the bit, one that does not decode to OFF with it; a flag byte with both preset bits. -/
theorem witness_mapper_correction :
    decodeMode Config.ref 0x10 = some .off ∧ (0x10 : Byte) &&& Config.ref.autoAux ≠ 0 ∧
    decodeMode Config.ref 0x00 = some .off ∧ (0x00 : Byte) &&& Config.ref.autoAux = 0 ∧
    decodeMode Config.ref 0x90 = some .auto ∧ (0x90 : Byte) &&& Config.ref.autoAux ≠ 0 ∧
    (0x03 : Byte) &&& Config.ref.auxHeatMask ≠ 0 ∧ (0x03 : Byte) &&& Config.ref.ecoMask ≠ 0 ∧
    (0x01 : Byte) &&& Config.ref.auxHeatMask = 0 ∧ (0x04 : Byte) &&& Config.ref.ecoMask = 0 := by decide

/-- For `FlagWordsFollowTheWordOrder`: the two orders, by hand, at the first and the last offset of a word. -/
theorem witness_words :
    wordAt Config.ref ([0x34, 0x12] ++ zeros 22) 6 = 0x1234 ∧
    wordAt { Config.ref with wordOrder := .be } (zeros 22 ++ [0x12, 0x34]) 28 = 0x1234 := by decide

/-- For `TickRunsTheBuiltFrame`. -/
theorem witness_tick :
    (ticking State.reset .sendQuery).tickCtr + 1 = Config.ref.tickMs ∧
    build { ticking State.reset .sendQuery with tickCtr := 0 } .sendQuery = .send .query := by decide

/-- For `WindowRunsTheReceivedFrame`. -/
theorem witness_window :
    (closing frameHeat).winArmed = true ∧ (closing frameHeat).winCtr = 1 ∧
    decodeRx Config.ref (closing frameHeat).rxFifo = .ok (.rQuery (zeros 4) qHeat) := by decide

/-- For `MillisecondCompletes`: an armed window with its command. -/
theorem witness_ms : (waiting 1).cfg.wf = true ∧ (waiting 1).winArmed = true ∧ (waiting 1).lastSent ≠ none := by decide

/-- For `QuietMillisecondOnlyCounts`: each of its ways to be quiet, the last at its boundary. -/
theorem witness_quiet :
    (waiting 2).winCtr ≠ 1 ∧ State.reset.snap.mode = none ∧ (withMode .off).snap.mode = some .off ∧
    (withMode .cool).remote = none ∧ elapsed (29998 + 1) 0 < Config.ref.fmPeriodMs ∧
    0x80000000 ≤ elapsed (3998 + 1) 4000 ∧ State.reset.tickCtr + 1 ≠ Config.ref.tickMs := by decide

/-- For `SchedulerFiresExactlyWhenDue` (L2-7i): due by the period at 30000 and not at 29999; due by the deadline at 4000
and not at 3999; never while OFF. -/
theorem witness_scheduler :
    ({ withMode .cool with remote := some 23, nowMs := 30000 }).reportDue = true ∧
    ({ withMode .cool with remote := some 23, nowMs := 29999 }).reportDue = false ∧
    ({ armed with nowMs := 4000 }).reportDue = true ∧
    ({ armed with nowMs := 3999 }).reportDue = false ∧
    ({ withMode .off with remote := some 23, nowMs := 40000 }).reportDue = false := by decide +kernel

/-- For `SkippedSendFallsBackToQuery`: each of the four reasons at a tick. -/
theorem witness_skipped :
    build { ticking State.reset .sendFollowMe with tickCtr := 0 } .sendFollowMe = .skip .suppressed ∧
    build { ticking (withMode .dry) .sendFollowMe with tickCtr := 0 } .sendFollowMe = .skip .noReading ∧
    build { ticking { withMode .dry with remote := some (-81 / 4) } .sendFollowMe with tickCtr := 0 } .sendFollowMe =
      .skip .tempRange ∧
    build { ticking State.reset .sendSet with tickCtr := 0 } .sendSet = .skip .snapshotIncomplete := by
  decide +kernel

/-- For `WrongLengthCaptureFailsTheExchange` and `InvalidFrameFailsTheExchange`: lengths beside 32 and past 255, each
check failing, and the next state under both recoveries with and without a pending command. -/
theorem witness_failed_exchange :
    (closing (zeros 31)).winArmed = true ∧ (closing (zeros 31)).winCtr = 1 ∧
    (closing (zeros 31)).rxFifo.length ≠ 32 ∧ (closing (zeros 33)).rxFifo.length ≠ 32 ∧
    (closing (zeros 256)).rxFifo.length ≠ 32 ∧ (closing (frameHeat.set 0 0)).rxFifo.getD 0 0 ≠ 0xAA ∧
    (closing (frameHeat.set 31 0)).rxFifo.getD 31 0 ≠ 0x55 ∧
    (closing (frameHeat.set 30 0xA5)).rxFifo.getD 30 0 ≠ checksum (frameHeat.set 30 0xA5) 30 ∧
    FailsTo (waiting 1) .sendQuery ∧ FailsTo { waiting 1 with pending := some .sendSet } .sendSet ∧
    FailsTo { waiting 1 with cfg := { Config.ref with recovery := .advance } } .sendQueryExt :=
  ⟨by decide, by decide, by decide, by decide, by decide +kernel, by decide, by decide, by decide, .inl ⟨rfl, rfl⟩, .inl ⟨rfl, rfl⟩,
    .inr ⟨rfl, .inr ⟨rfl, _, rfl, rfl⟩⟩⟩

/-- For the statements about receive frames: a routed exchange that succeeds by the cycle and by the pending slot, and
one whose command was `SET`. -/
theorem witness_succeeds :
    (waiting 1).cfg.wf = true ∧ (waiting 1).lastSent ≠ some .set ∧ SucceedsTo (waiting 1) .sendQueryExt ∧
    SucceedsTo { waiting 1 with pending := some .sendSet } .sendSet ∧
    SucceedsTo { waiting 1 with lastSent := some .set } .sendFollowMe :=
  ⟨by decide, by decide, .inr ⟨rfl, _, rfl, rfl⟩, .inl rfl, .inr ⟨rfl, _, rfl, rfl⟩⟩

/-- For `ActionFollowsTheEarlierMode`: `RQ_AUTOCOOL`'s, a heating, a fan and an idle mode byte. -/
theorem witness_action :
    payloadByte (zeros 2 ++ [0x98] ++ zeros 21) Config.ref.rxq.mode &&& Config.ref.autoCool ≠ 0 ∧
    autoAction Config.ref 0x94 = .heating ∧ autoAction Config.ref 0x91 = .fan ∧ autoAction Config.ref 0x90 = .idle := by
  decide

/-- For `ResponseWithoutCommandFaults`. -/
theorem witness_no_command :
    fault? (exec (.rSet (zeros 4) (zeros 24)) State.reset) = some .noCommandInFlight := by decide

/-- For `ResetSetsEveryRegister`, `UnadmittedConfigurationIsRefused`. -/
theorem witness_configurations :
    State.reset.cfgIn.wf = true ∧ Config.wf { Config.ref with windowMs := 0 } = false := by decide

/-- For `ControlRequestIsMerged` and `UnencodableTargetRejectsTheRequest`: the outermost targets on either side. -/
theorem witness_control :
    targetToRaw Config.ref (some (215 / 2)) ≠ none ∧ targetToRaw Config.ref (some (-20)) ≠ none ∧
    targetToRaw Config.ref (some (431 / 4)) = none ∧ targetToRaw Config.ref (some (-81 / 4)) = none := by decide +kernel

/-- For the two statements about `STATIC_PRESSURE`: 0 and 15 while OFF, 15 while not OFF, 16. -/
theorem witness_static_pressure :
    (withMode .off).snap.mode = some .off ∧ (0 : Byte).toNat ≤ 15 ∧ (15 : Byte).toNat ≤ 15 ∧ 15 < (16 : Byte).toNat ∧
    State.reset.snap.mode ≠ some .off := by decide

/-- For `RemoteReadingIsStored`: each of its three cases. -/
theorem witness_remote :
    (none : Temp) = State.reset.remote ∧ (some 23 : Temp) ≠ State.reset.remote ∧ State.reset.fmChgArmed = false ∧
    ({ State.reset with fmChgArmed := true }).fmChgArmed = true ∧
    (none : Temp) ≠ ({ State.reset with remote := some 23 }).remote := by decide +kernel

/-- For `NoEventPreemptsTheExchange`: each event while a response is awaited. -/
theorem witness_no_preemption :
    (after (exec (.control ControlReq.empty) (waiting 5)) fun t => t.pending) = some (some .sendSet) ∧
    (after (exec (.staticPressure 3) (waiting 5)) fun t => t.state) = some .awaiting ∧
    (after (exec (.remoteTemp none) (waiting 5)) fun t => t.winCtr) = some 5 := by decide +kernel

/-- For the statements about every step: steps that change the configuration, end a session, write the snapshot and the
telemetry, and transmit. -/
theorem witness_steps :
    (after (step (offered { State.reset with cfgIn := { Config.ref with cycle := .ring } } .reset .reset))
      fun t => t.cfg.cycle) = some .ring ∧
    (after (step (offered { withMode .cool with fmInit := true } .host
      (.control ⟨some .heat, .exact none, none, none, none⟩))) fun t => (t.fmInit, t.snap.mode)) =
      some (false, some .heat) ∧
    (after (step (closing frameHeat)) fun t => (t.snap.mode, t.tel.coil1, t.forceRefresh)) =
      some (some .heat, some 20, false) ∧
    (after (step (ticking State.reset .sendQuery)) fun t => (framesOf t.out).length) = some 1 := by decide +kernel

/-- For `CelsiusTargetsStayEncodable` and `KnownSnapshotFieldsStayKnown`. -/
theorem witness_target : known.TargetEncodable ∧ known.snap.target ≠ none ∧ known.cfg.tempUnit = .celsius :=
  ⟨fun _ => by decide +kernel, by decide +kernel, rfl⟩

/-- For `TickNeverFindsAwaiting`: its first clause, and for its second a tick that falls as a window is idle. -/
theorem witness_tick_awaiting :
    ({ waiting 1 with tickCtr := 999 }).state = .awaiting ∧
    ({ waiting 1 with tickCtr := 999 }).tickCtr + 1 = Config.ref.tickMs ∧
    (after (State.window { ticking State.reset .sendQuery with nowMs := 1 })
      fun w => decide ((State.schedule w).tickCtr + 1 = (State.schedule w).cfg.tickMs)) = some true := by
  decide +kernel

/-- For `FirstTickAfterResetSendsQuery`, `EveryExchangeEndsWithItsWindow`, `AFrameGoesOutWithinTwoTicks`. -/
theorem witness_runs :
    Config.ref.wf = true ∧ (waiting 1).Inv ∧ (waiting 1).TimingWf ∧ (waiting 1).noInput ∧
    (waiting 1).state = .awaiting ∧ (waiting 1).remote = none :=
  ⟨by decide, witness_inv_waiting 1, witness_timing_waiting.1, rfl, rfl, rfl⟩

end Sys2Proof.Tests
end

section
/-! Decoding undoes encoding (30_encoding.md R80-R93, R107): the frame codec, the payload fields by their offsets, the
flags byte, and each instruction's packet. -/

namespace Sys2Proof

open Sys2Proof.Machine

/-! ## What an admitted configuration gives -/

/-- The named checks of R95 that an admitted configuration passes and the encoding rests on. -/
theorem Config.wf_encodingChecks {cfg : Config} (h : cfg.wf = true) :
    cfg.wfCodes = true ∧ cfg.wfSetOffs = true ∧ cfg.wfFmOffs = true ∧ cfg.wfModeTable = true ∧
    cfg.wfFanTable = true ∧ cfg.wfFlags = true := by
  simp only [Config.wf, Bool.and_eq_true] at h
  simp only [h, and_self]

/-- The mapper reads every mode from its own code (42_mapper.md R164). -/
theorem decodeMode_encodeMode {cfg : Config} (h : cfg.wfModeTable = true) (m : Mode) :
    decodeMode cfg (encodeMode cfg m) = some m := by
  simp only [Config.wfModeTable, List.all_eq_true, beq_iff_eq] at h
  exact h m (by cases m <;> decide)

/-- The mapper reads every fan mode from its own code (R164). -/
theorem decodeFan_encodeFan {cfg : Config} (h : cfg.wfFanTable = true) (f : Fan) :
    decodeFan cfg (encodeFan cfg f) = some f := by
  simp only [Config.wfFanTable, List.all_eq_true, beq_iff_eq] at h
  exact h f (by cases f <;> decide)

/-- Distinct codes name their commands (30_encoding.md R85). -/
theorem cmdOfCode_codeOf {cfg : Config} (h : cfg.wfCodes = true) (c : Cmd) : cmdOfCode cfg (codeOf cfg c) = some c := by
  simp only [Config.wfCodes, allDistinct, List.contains_eq_mem, List.mem_cons, List.not_mem_nil, Bool.and_eq_true,
    Bool.not_eq_true', decide_eq_false_iff_not, not_or] at h
  obtain ⟨⟨hqe, hqs, hqf, -⟩, ⟨hes, hef, -⟩, ⟨hsf, -⟩, -⟩ := h
  cases c with
  | query => simp [codeOf, cmdOfCode]
  | queryExt => simp [codeOf, cmdOfCode, Ne.symm hqe]
  | set => simp [codeOf, cmdOfCode, Ne.symm hqs, Ne.symm hes]
  | followMe => simp [codeOf, cmdOfCode, Ne.symm hqf, Ne.symm hef, Ne.symm hsf]

/-- A code that is none of the four names no command. -/
theorem cmdOfCode_eq_none {cfg : Config} {code : Byte}
    (h : [cmdQuery, cfg.cmdQueryExt, cfg.cmdSet, cfg.cmdFollowMe].contains code = false) :
    cmdOfCode cfg code = none := by
  simp only [List.contains_eq_mem, decide_eq_false_iff_not, List.mem_cons, List.not_mem_nil, not_or] at h
  obtain ⟨hq, he, hs, hf, -⟩ := h
  simp [cmdOfCode, hq, he, hs, hf]

/-! ## Frames -/

/-- Decoding a built transmit frame leaves its command and payload to read (41_codec.md R123). -/
theorem decodeTx_encodeTx (cfg : Config) (c : Cmd) {p : List Byte} (hp : p.length = 8) :
    decodeTx cfg (encodeTx cfg c p) = decodeTxPayload cfg (codeOf cfg c) p := by
  obtain ⟨hpre, hcmd, hid, hpay, hcs, hmk⟩ := encodeTx_bytes cfg c p hp
  have hchecks := (checkFrame_ok_iff _ 14 15).mpr ⟨hpre, hmk, hcs⟩
  simp only [decodeTx, encodeTx_length cfg c p hp, hchecks, hid, hcmd, hpay, ne_eq, not_true_eq_false, if_false]

/-- Decoding a built receive frame gives back its code, header and payload (41_codec.md R126). -/
theorem decodeRx_encodeRx (cfg : Config) (code : Byte) {hdr q : List Byte} (h : rxShape hdr q = true) :
    decodeRx cfg (encodeRx code hdr q) = .ok (rxInstr cfg code hdr q) := by
  simp only [rxShape, Bool.and_eq_true, beq_iff_eq] at h
  obtain ⟨hhdr, hq⟩ := h
  obtain ⟨hpre, hcode, hdr', hq', hcs, hmk⟩ := encodeRx_bytes code hdr q hhdr hq
  have hchecks := (checkFrame_ok_iff _ 30 31).mpr ⟨hpre, hmk, hcs⟩
  simp only [decodeRx, encodeRx_length code hdr q hhdr hq, hchecks, hdr', hcode, hq', ne_eq, not_true_eq_false,
    if_false]

/-- A payload that is its candidate's layout is accepted. -/
@[simp] theorem acceptPayload_self (i : Instr) (p : List Byte) : acceptPayload i p p = .ok i := if_pos rfl

/-! ## Payload fields -/

/-- A field reads as what was put at its offset (43_frames.md R180). -/
theorem payloadByte_put_self {p : List Byte} {o : Nat} (v : Byte) (hlen : p.length = 8) (ho : inTxPayload o = true) :
    payloadByte (put p o v) o = v := by
  simp only [inTxPayload, Bool.and_eq_true, decide_eq_true_eq] at ho
  have hlt : o - 6 < p.length := by omega
  simp [payloadByte, put, hlt]

/-- A field reads as before after another field was put. -/
theorem payloadByte_put_ne (p : List Byte) {o o' : Nat} (v : Byte) (ho : inTxPayload o = true)
    (ho' : inTxPayload o' = true) (hne : o' ≠ o) : payloadByte (put p o' v) o = payloadByte p o := by
  simp only [inTxPayload, Bool.and_eq_true, decide_eq_true_eq] at ho ho'
  have hne' : o' - 6 ≠ o - 6 := by omega
  simp [payloadByte, put, List.getD_eq_getElem?_getD, hne']

/-- A set payload reads as its four fields at their offsets (30_encoding.md R89). -/
theorem setPayload_fields {cfg : Config} (h : cfg.wfSetOffs = true) (m : Mode) (f : Fan) (temp : Byte) (sw : Bool)
    (pr : Preset) :
    payloadByte (setPayload cfg m f temp sw pr) cfg.setOff.mode = encodeMode cfg m ∧
    payloadByte (setPayload cfg m f temp sw pr) cfg.setOff.fan = encodeFan cfg f ∧
    payloadByte (setPayload cfg m f temp sw pr) cfg.setOff.temp = temp ∧
    payloadByte (setPayload cfg m f temp sw pr) cfg.setOff.flags = encodeFlags cfg sw pr := by
  simp only [Config.wfSetOffs, SetOffsets.list, allDistinct, List.contains_eq_mem, List.mem_cons, List.not_mem_nil,
    List.all_cons, List.all_nil, Bool.and_eq_true, Bool.not_eq_true', decide_eq_false_iff_not, not_or] at h
  obtain ⟨⟨⟨hmf, hmt, hmg, hma, hmo, -⟩, ⟨hft, hfg, hfa, hfo, -⟩, ⟨htg, hta, hto, -⟩, ⟨hga, hgo, -⟩, -⟩,
    hm, hf, ht, hg, ha, ho, -⟩ := h
  refine ⟨?_, ?_, ?_, ?_⟩ <;>
    simp [setPayload, payloadByte_put_self, payloadByte_put_self _ zero8_length, payloadByte_put_ne, Ne.symm, *]

/-- A follow-me payload reads as its three fields at their offsets (R90). -/
theorem fmPayload_fields {cfg : Config} (h : cfg.wfFmOffs = true) (sub temp sp : Byte) :
    payloadByte (fmPayload cfg sub temp sp) cfg.fmOff.sub = sub ∧
    payloadByte (fmPayload cfg sub temp sp) cfg.fmOff.temp = temp ∧
    payloadByte (fmPayload cfg sub temp sp) cfg.fmOff.sp = sp := by
  simp only [Config.wfFmOffs, FmOffsets.list, allDistinct, List.contains_eq_mem, List.mem_cons, List.not_mem_nil,
    List.all_cons, List.all_nil, Bool.and_eq_true, Bool.not_eq_true', decide_eq_false_iff_not, not_or] at h
  obtain ⟨⟨⟨hst, hsp, -⟩, ⟨htp, -⟩, -⟩, hs, ht, hp, -⟩ := h
  refine ⟨?_, ?_, ?_⟩ <;>
    simp [fmPayload, payloadByte_put_self, payloadByte_put_self _ zero8_length, payloadByte_put_ne, Ne.symm, *]

/-! ## The flags byte and the static-pressure value -/

/-- A mask meets a join of bytes where it meets one of them. -/
theorem anyBit_or (a b mask : Byte) : anyBit (a ||| b) mask = (anyBit a mask || anyBit b mask) := by
  unfold anyBit
  rw [BitVec.and_or_distrib_right, Bool.eq_iff_iff]
  simp [BitVec.or_eq_zero_iff, -not_and, not_and_or]

@[simp] theorem anyBit_zero (mask : Byte) : anyBit 0#8 mask = false := by simp [anyBit]

/-- Nonzero disjoint masks keep the swing bit and the preset bits apart (42_mapper.md R155-R157, R164). -/
theorem decodeFlags_encodeFlags {cfg : Config} (h : cfg.wfFlags = true) (sw : Bool) (pr : Preset) :
    decodeSwing cfg (encodeFlags cfg sw pr) = sw ∧ decodePreset cfg (encodeFlags cfg sw pr) = pr := by
  simp only [Config.wfFlags, Bool.and_eq_true, bne_iff_ne, beq_iff_eq] at h
  obtain ⟨⟨⟨⟨⟨hs, ha⟩, he⟩, hsa⟩, hse⟩, hae⟩ := h
  have hself : anyBit cfg.swingMask cfg.swingMask = true ∧ anyBit cfg.auxHeatMask cfg.auxHeatMask = true ∧
      anyBit cfg.ecoMask cfg.ecoMask = true := by
    simpa [anyBit] using ⟨hs, ha, he⟩
  have hother : anyBit cfg.swingMask cfg.auxHeatMask = false ∧ anyBit cfg.swingMask cfg.ecoMask = false ∧
      anyBit cfg.auxHeatMask cfg.swingMask = false ∧ anyBit cfg.ecoMask cfg.swingMask = false ∧
      anyBit cfg.ecoMask cfg.auxHeatMask = false := by
    simp [anyBit, hsa, hse, hae, BitVec.and_comm cfg.auxHeatMask cfg.swingMask,
      BitVec.and_comm cfg.ecoMask cfg.swingMask, BitVec.and_comm cfg.ecoMask cfg.auxHeatMask]
  cases sw <;> cases pr <;> simp [decodeSwing, decodePreset, encodeFlags, anyBit_or, hself, hother]

/-- The static-pressure byte gives its nibble back (41_codec.md R135). -/
@[simp] theorem spFromRaw_spToRaw (sp : U4) : spFromRaw (spToRaw sp) = sp := by
  simp [spFromRaw, spToRaw]

/-! ## Payloads -/

/-- Decoding a set payload gives its fields back (R89). -/
theorem decodeSetPayload_setPayload {cfg : Config} (h : cfg.wf = true) (m : Mode) (f : Fan) (temp : Byte) (sw : Bool)
    (pr : Preset) : decodeSetPayload cfg (setPayload cfg m f temp sw pr) = .ok (.set m f temp sw pr) := by
  obtain ⟨-, hset, -, hmode, hfan, hflags⟩ := Config.wf_encodingChecks h
  obtain ⟨hm, hf, ht, hg⟩ := setPayload_fields hset m f temp sw pr
  obtain ⟨hsw, hpr⟩ := decodeFlags_encodeFlags hflags sw pr
  simp [decodeSetPayload, hm, hf, ht, hg, hsw, hpr, decodeMode_encodeMode hmode, decodeFan_encodeFan hfan]

/-- Decoding an `FM_INIT` payload gives its temperature back (R86, R90). -/
theorem decodeFmPayload_fmInit {cfg : Config} (h : cfg.wfFmOffs = true) (temp : Byte) :
    decodeFmPayload cfg (fmPayload cfg fmInitCode temp 0x00) = .ok (.fmInit temp) := by
  obtain ⟨hs, ht, -⟩ := fmPayload_fields h fmInitCode temp 0x00
  simp only [decodeFmPayload, hs, ht, if_true, acceptPayload_self]

/-- Decoding an `FM_UPDATE` payload gives its temperature back. -/
theorem decodeFmPayload_fmUpdate {cfg : Config} (h : cfg.wfFmOffs = true) (temp : Byte) :
    decodeFmPayload cfg (fmPayload cfg fmUpdateCode temp 0x00) = .ok (.fmUpdate temp) := by
  obtain ⟨hs, ht, -⟩ := fmPayload_fields h fmUpdateCode temp 0x00
  have hne : fmUpdateCode ≠ fmInitCode := by decide
  simp only [decodeFmPayload, hs, ht, if_neg hne, if_true, acceptPayload_self]

/-- Decoding an `FM_STATIC` payload gives its static pressure back. -/
theorem decodeFmPayload_fmStatic {cfg : Config} (h : cfg.wfFmOffs = true) (sp : U4) :
    decodeFmPayload cfg (fmPayload cfg fmStaticCode 0x00 (spToRaw sp)) = .ok (.fmStatic sp) := by
  obtain ⟨hs, -, hp⟩ := fmPayload_fields h fmStaticCode 0x00 (spToRaw sp)
  have hinit : fmStaticCode ≠ fmInitCode := by decide
  have hupdate : fmStaticCode ≠ fmUpdateCode := by decide
  simp only [decodeFmPayload, hs, hp, if_neg hinit, if_neg hupdate, if_true, spFromRaw_spToRaw, acceptPayload_self]

/-! ## Instructions -/

/-- A built transmit frame decodes as its command's payload does (R85, R87-R90). -/
theorem decodeTx_encodeTx_byCommand {cfg : Config} (hc : cfg.wfCodes = true) (c : Cmd) {p : List Byte}
    (hp : p.length = 8) : decodeTx cfg (encodeTx cfg c p) = match c with
      | .query => acceptPayload .query zero8 p
      | .queryExt => acceptPayload .queryExt zero8 p
      | .set => decodeSetPayload cfg p
      | .followMe => decodeFmPayload cfg p := by
  rw [decodeTx_encodeTx cfg c hp, decodeTxPayload, cmdOfCode_codeOf hc]
  cases c <;> rfl

/-- A receive frame with a command's code is that command's response (R82, R85). -/
theorem decodeRx_encodeRx_byCommand {cfg : Config} (hc : cfg.wfCodes = true) (c : Cmd) {hdr q : List Byte}
    (h : rxShape hdr q = true) :
    decodeRx cfg (encodeRx (codeOf cfg c) hdr q) = .ok (match c with
      | .query => .rQuery hdr q
      | .queryExt => .rQueryExt hdr q
      | .set => .rSet hdr q
      | .followMe => .rFollowMe hdr q) := by
  rw [decodeRx_encodeRx cfg _ h, rxInstr, cmdOfCode_codeOf hc]
  cases c <;> rfl

/-- Settles O1: transmit frames by their payloads, receive frames by their codes, events by their transactions. -/
theorem decodeOfEncodeIsIdentity : Obligations.DecodeOfEncodeIsIdentity := by
  intro cfg i hcfg hi
  obtain ⟨hc, -, hfm, -⟩ := Config.wf_encodingChecks hcfg
  cases i with
  | query => exact (decodeTx_encodeTx_byCommand hc .query zero8_length).trans (acceptPayload_self _ _)
  | queryExt => exact (decodeTx_encodeTx_byCommand hc .queryExt zero8_length).trans (acceptPayload_self _ _)
  | set m f temp sw pr =>
    exact (decodeTx_encodeTx_byCommand hc .set (setPayload_length ..)).trans
      (decodeSetPayload_setPayload hcfg m f temp sw pr)
  | fmInit temp =>
    exact (decodeTx_encodeTx_byCommand hc .followMe (fmPayload_length ..)).trans (decodeFmPayload_fmInit hfm temp)
  | fmUpdate temp =>
    exact (decodeTx_encodeTx_byCommand hc .followMe (fmPayload_length ..)).trans (decodeFmPayload_fmUpdate hfm temp)
  | fmStatic sp =>
    exact (decodeTx_encodeTx_byCommand hc .followMe (fmPayload_length ..)).trans (decodeFmPayload_fmStatic hfm sp)
  | rQuery hdr q => exact decodeRx_encodeRx_byCommand hc .query hi
  | rQueryExt hdr q => exact decodeRx_encodeRx_byCommand hc .queryExt hi
  | rSet hdr q => exact decodeRx_encodeRx_byCommand hc .set hi
  | rFollowMe hdr q => exact decodeRx_encodeRx_byCommand hc .followMe hi
  | rUnknown code hdr q =>
    simp only [Instr.wf, Bool.and_eq_true, Bool.not_eq_true'] at hi
    obtain ⟨hshape, hcode⟩ := hi
    refine (decodeRx_encodeRx cfg code hshape).trans ?_
    rw [rxInstr, cmdOfCode_eq_none hcode]
  | reset | ms | control _ | staticPressure _ | remoteTemp _ | rx _ => rfl

end Sys2Proof
end

section
/-! What a millisecond leaves alone, and that it completes (45_sequencer.md R231-R244): each sub-step meets one frame
relation, and each answers a next state. -/

namespace Sys2Proof.Machine

/-! ## The registers that no sub-step of `MS` writes -/

/-- `t` keeps what no sub-step of `MS` after Time writes: the clock, the configuration, the reading held, the change
deadline, the static-pressure value and the waiting inputs; the session does not end and the outputs only grow.
Each clause holds by `rfl` of an update that does not write its register. -/
structure SubstepKeeps (s t : State) : Prop where
  nowMs : t.nowMs = s.nowMs := by rfl
  cfg : t.cfg = s.cfg := by rfl
  cfgIn : t.cfgIn = s.cfgIn := by rfl
  remote : t.remote = s.remote := by rfl
  fmChgDeadline : t.fmChgDeadline = s.fmChgDeadline := by rfl
  fmSp : t.fmSp = s.fmSp := by rfl
  inbox : t.inbox = s.inbox := by rfl
  fmInit : s.fmInit = true → t.fmInit = true := by exact id
  out : ∃ added, t.out = s.out ++ added := by exact ⟨[], (List.append_nil _).symm⟩

theorem SubstepKeeps.refl (s : State) : SubstepKeeps s s := {}

theorem SubstepKeeps.trans {s t u : State} (h : SubstepKeeps s t) (h' : SubstepKeeps t u) : SubstepKeeps s u := by
  obtain ⟨added, hout⟩ := h.out
  obtain ⟨added', hout'⟩ := h'.out
  exact ⟨h'.nowMs.trans h.nowMs, h'.cfg.trans h.cfg, h'.cfgIn.trans h.cfgIn, h'.remote.trans h.remote,
    h'.fmChgDeadline.trans h.fmChgDeadline, h'.fmSp.trans h.fmSp, h'.inbox.trans h.inbox,
    fun hi => h'.fmInit (h.fmInit hi), added ++ added', by rw [hout', hout, List.append_assoc]⟩

/-- The receive step (R239-R241) before the next state is taken. -/
theorem Received.keeps {s u : State} {o : Option SendState} (h : Received s u o) : SubstepKeeps s u := by
  obtain ⟨added, hu⟩ := h.frame
  rw [hu]
  exact { out := ⟨added, rfl⟩ }

/-- `RECEIVE()` (R239-R244). -/
theorem State.receive_keeps {s t : State} (h : s.receive = .next t) : SubstepKeeps s t := by
  obtain ⟨u, p, hr, rfl⟩ := State.receive_next h
  exact hr.keeps.trans {}

/-- The response window (R233). -/
theorem State.window_keeps {s w : State} (h : s.window = .next w) : SubstepKeeps s w := by
  rcases s.window_cases with ⟨-, hw⟩ | ⟨-, -, hw⟩ | ⟨-, -, hw⟩ <;> rw [hw] at h
  · cases h; exact .refl s
  · cases h; exact {}
  · exact SubstepKeeps.trans (t := { s with winCtr := 0, winArmed := false }) {} (State.receive_keeps h)

/-- The follow-me scheduler (R234). -/
theorem State.schedule_keeps (s : State) : SubstepKeeps s s.schedule := by
  obtain ⟨hs, -⟩ := s.schedule_frame
  rw [hs]
  exact {}

/-- A frame's own effects (43_frames.md R189). -/
theorem FrameEffect.keeps {s u : State} {c : Cmd} (h : FrameEffect s c u) : SubstepKeeps s u := by
  cases h with
  | plain => exact .refl s
  | init => exact { fmInit := fun _ => rfl }
  | update | static => exact {}

/-- A transmit frame completes under an admitted configuration (R237). -/
theorem exec_transmit_completes {i : Instr} (hi : Instr.isTransmit i) {s : State} (hw : s.cfg.wf = true) :
    ∃ t, exec i s = .next t ∧ SubstepKeeps s t := by
  obtain ⟨c, p, u, -, -, hu, he⟩ := exec_transmit hi s
  have hk := hu.keeps
  rw [whenAdmitted_of_wf hw] at he
  exact ⟨_, he, hk.nowMs, hk.cfg, hk.cfgIn, hk.remote, hk.fmChgDeadline, hk.fmSp, hk.inbox, hk.fmInit, _, rfl⟩

/-- The tick completes under an admitted configuration (R235-R238, R251). -/
theorem State.tick_completes {s : State} (hw : s.cfg.wf = true) : ∃ t, s.tick = .next t ∧ SubstepKeeps s t := by
  rcases s.tick_cases with ⟨-, ht⟩ | ⟨-, -, ht⟩ | ⟨_, reason, -, -, -, ht⟩ | ⟨_, i, -, -, -, hi, ht⟩
  · exact ⟨_, ht, {}⟩
  · exact ⟨_, ht, {}⟩
  · exact ⟨_, ht, { out := ⟨_, rfl⟩ }⟩
  · obtain ⟨t, he, hk⟩ := exec_transmit_completes (s := { s with tickCtr := 0 }) hi hw
    exact ⟨t, ht.trans he, SubstepKeeps.trans (t := { s with tickCtr := 0 }) {} hk⟩

/-- The tick's part of the frame, from its next state. -/
theorem State.tick_keeps {s t : State} (hw : s.cfg.wf = true) (h : s.tick = .next t) : SubstepKeeps s t := by
  obtain ⟨t', ht', hk⟩ := State.tick_completes hw
  rw [h] at ht'
  cases ht'
  exact hk

/-- `MS` that answers a next state counts one millisecond and keeps the rest of the frame (R231, R232). -/
theorem exec_ms_keeps {s t : State} (h : exec .ms s = .next t) : SubstepKeeps s.tickTime t := by
  obtain ⟨hw, w, hwin, ht⟩ := execMs_next h
  have hk := (State.window_keeps hwin).trans w.schedule_keeps
  exact hk.trans (State.tick_keeps (by rw [hk.cfg]; exact hw) ht)

/-! ## Completion -/

/-- A successful exchange has a next state where the command in flight is known (R242). -/
theorem State.success_completes {s : State} (h : s.lastSent ≠ none) : ∃ t, s.success = .next t := by
  obtain ⟨p, hp⟩ := State.afterSuccess_isSome h
  exact ⟨_, by rw [State.success_eq, hp]⟩

/-- A failed exchange has a next state there too (R244). -/
theorem State.failure_completes {s : State} (h : s.lastSent ≠ none) : ∃ t, s.failure = .next t := by
  obtain ⟨p, hp⟩ := State.afterFailure_isSome h
  exact ⟨_, by rw [State.failure_eq, hp]⟩

/-- Routing a received frame has a next state where the command in flight is known (R241). -/
theorem State.route_completes {s u : State} (hw : s.cfg.wf = true) (hs : s.lastSent ≠ none)
    (hu : u.lastSent = s.lastSent) : ∃ t, s.route u = .next t := by
  rw [State.route, whenAdmitted_of_wf hw]
  split
  · exact State.success_completes hs
  · exact State.success_completes (hu ▸ hs)

/-- A received frame completes where the command in flight is known. -/
theorem exec_response_completes {i : Instr} (hi : Instr.isResponse i) {s : State} (hw : s.cfg.wf = true)
    (hs : s.lastSent ≠ none) : ∃ t, exec i s = .next t := by
  rcases hi with ⟨_, q, rfl⟩ | ⟨_, q, rfl⟩ | ⟨_, _, rfl⟩ | ⟨_, _, rfl⟩ | ⟨_, _, _, rfl⟩
  · exact State.route_completes hw hs (by rw [State.applyQuery_eq])
  · exact State.route_completes hw hs (by rw [State.applyQueryExt_eq])
  · exact State.route_completes hw hs rfl
  · exact State.route_completes hw hs rfl
  · exact State.route_completes hw hs rfl

/-- `RECEIVE()` completes where the command in flight is known (R239-R244). -/
theorem State.receive_completes {s : State} (hw : s.cfg.wf = true) (hs : s.lastSent ≠ none) :
    ∃ t, s.receive = .next t := by
  unfold State.receive
  split
  · exact State.failure_completes hs
  · split
    · next i hi =>
      have hr := decodeRx_isResponse hi
      rw [runResponse_eq_exec hr]
      exact exec_response_completes hr hw hs
    · next e _ =>
      refine State.failure_completes ?_
      rw [State.raiseReject_eq]
      exact hs

/-- The window completes where an armed window has its command (R233). -/
theorem State.window_completes {s : State} (hw : s.cfg.wf = true) (hs : s.winArmed = true → s.lastSent ≠ none) :
    ∃ w, s.window = .next w := by
  rcases s.window_cases with ⟨-, h⟩ | ⟨-, -, h⟩ | ⟨ha, -, h⟩
  · exact ⟨_, h⟩
  · exact ⟨_, h⟩
  · obtain ⟨w, hr⟩ := State.receive_completes (s := { s with winCtr := 0, winArmed := false }) hw (hs ha)
    exact ⟨w, h.trans hr⟩

/-- `MS` completes where an armed window has its command (R231). -/
theorem exec_ms_completes {s : State} (hw : s.cfg.wf = true) (hs : s.winArmed = true → s.lastSent ≠ none) :
    ∃ t, exec .ms s = .next t := by
  obtain ⟨w, hwin⟩ := State.window_completes (s := s.tickTime) hw hs
  have hk := (State.window_keeps hwin).trans w.schedule_keeps
  obtain ⟨t, ht, -⟩ := State.tick_completes (s := w.schedule) (by rw [hk.cfg]; exact hw)
  refine ⟨t, (whenAdmitted_of_wf hw _).trans ?_⟩
  rw [hwin]
  exact ht

/-- Settles O23: the sub-steps complete one after another, and each keeps the frame. -/
theorem millisecondCompletes : Obligations.MillisecondCompletes := by
  intro s hw hs
  obtain ⟨t, ht⟩ := exec_ms_completes hw hs
  have hk := exec_ms_keeps ht
  exact ⟨t, ht, hk.nowMs, hk.cfg, hk.cfgIn, hk.remote, hk.fmChgDeadline, hk.fmSp, hk.inbox, hk.fmInit, hk.out⟩

end Sys2Proof.Machine
end

section
/-! Who writes the configuration, the snapshot, the telemetry and the forced refresh: the port events say what they
touch, the sub-steps of `MS` what they interpret, and every step is `RESET`, `MS` or a port event. -/

namespace Sys2Proof.Machine

/-! ## The host's, the sensor's and the transport's events -/

/-- `request` touches only the control state and the pending slot (45_sequencer.md R246). -/
theorem State.request_frame (s : State) (target : SendState) :
    s.request target = { s with state := (s.request target).state, pending := (s.request target).pending } := by
  rw [State.request_eq]
  split <;> rfl

/-- What `t` keeps of `s` through an event of the host, the sensor or the transport: the configuration, the telemetry
and the forced refresh; the snapshot becomes `snap`. -/
structure PortEventKeeps (snap : Snapshot) (s t : State) : Prop where
  cfg : t.cfg = s.cfg := by rfl
  cfgIn : t.cfgIn = s.cfgIn := by rfl
  tel : t.tel = s.tel := by rfl
  forceRefresh : t.forceRefresh = s.forceRefresh := by rfl
  snap : t.snap = snap := by rfl

/-- `CONTROL` logs and rejects, or merges the request into the snapshot (R245). -/
theorem exec_control_keeps {req : ControlReq} {s t : State} (h : exec (.control req) s = .next t) :
    PortEventKeeps s.snap s t ∨ PortEventKeeps (s.snap.merge req) s t := by
  have haccept : PortEventKeeps (s.snap.merge req) s (s.acceptControl req) := by
    rw [State.acceptControl, State.request_frame]
    exact {}
  obtain ⟨-, h⟩ := whenAdmitted_next h
  split at h
  · split at h
    · cases h; exact .inl {}
    · cases h; exact .inr haccept
  · cases h; exact .inr haccept

/-- `STATIC_PRESSURE` logs and rejects, or requests a follow-me frame (R248). -/
theorem exec_staticPressure_keeps {v : Byte} {s t : State} (h : exec (.staticPressure v) s = .next t) :
    PortEventKeeps s.snap s t := by
  obtain ⟨-, h⟩ := whenAdmitted_next h
  split at h
  · cases h; exact {}
  · split at h
    · cases h; exact {}
    · cases h
      rw [State.request_frame]
      exact {}

/-- `REMOTE_TEMP` touches the reading and its change trigger (R249). -/
theorem exec_remoteTemp_keeps {x : Temp} {s t : State} (h : exec (.remoteTemp x) s = .next t) :
    PortEventKeeps s.snap s t := by
  obtain ⟨-, h⟩ := whenAdmitted_next h
  cases h
  split
  · exact {}
  · unfold State.newReading
    split <;> exact {}

/-- `RX` appends to the transport's FIFO (R230). -/
theorem exec_rx (bytes : List Byte) {s : State} (h : s.cfg.wf = true) :
    exec (.rx bytes) s = .next { s with rxFifo := s.rxFifo ++ bytes } := whenAdmitted_of_wf h _

theorem exec_rx_keeps {bytes : List Byte} {s t : State} (h : exec (.rx bytes) s = .next t) :
    PortEventKeeps s.snap s t := by
  obtain ⟨-, h⟩ := whenAdmitted_next h
  cases h
  exact {}

/-- A `RESET` latches an admitted supplied configuration (70_reset_and_hazards.md R310, R311). -/
theorem exec_reset_next {s t : State} (h : exec .reset s = .next t) : s.cfgIn.wf = true ∧ t = s.afterReset := by
  change execReset s = .next t at h
  unfold execReset at h
  split at h
  · next hw => cases h; exact ⟨hw, rfl⟩
  · cases h

/-- Any event but a `RESET` that answers a next state had an admitted configuration (R311). -/
theorem exec_next_admitted {i : Instr} {s t : State} (hi : i ≠ .reset) (h : exec i s = .next t) :
    s.cfg.wf = true := by
  cases i with
  | reset => exact absurd rfl hi
  | query | queryExt | set | fmInit | fmUpdate | fmStatic | rQuery | rQueryExt | rSet | rFollowMe | rUnknown | ms
  | control | staticPressure | remoteTemp | rx => exact (whenAdmitted_next h).1

/-- Of the events of the host, the sensor and the transport only a control request writes the snapshot. -/
theorem exec_portEvent_keeps {cfg : Config} {tr : Transaction} {i : Instr} {s t : State}
    (hd : decodeTransaction cfg tr = .ok i) (hreset : i ≠ .reset) (hms : i ≠ .ms) (h : exec i s = .next t) :
    PortEventKeeps s.snap s t ∨ ∃ req, i = .control req ∧ PortEventKeeps (s.snap.merge req) s t := by
  rcases decodeTransaction_ok hd with rfl | rfl | ⟨req, rfl⟩ | ⟨v, rfl⟩ | ⟨x, rfl⟩ | ⟨bs, rfl⟩
  · exact absurd rfl hms
  · exact absurd rfl hreset
  · exact (exec_control_keeps h).imp_right fun hk => ⟨req, rfl, hk⟩
  · exact .inl (exec_staticPressure_keeps h)
  · exact .inl (exec_remoteTemp_keeps h)
  · exact .inl (exec_rx_keeps h)

/-- Taking the transaction from the queue writes none of these registers. -/
theorem PortEventKeeps.of_advance {snap : Snapshot} {s t : State} (h : PortEventKeeps snap s.advance t) :
    PortEventKeeps snap s t :=
  ⟨h.cfg, h.cfgIn, h.tel, h.forceRefresh, h.snap⟩

/-- A step that answers a next state ran a `RESET`, an `MS`, or an event of the host, the sensor or the transport. -/
theorem step_cases {s t : State} (h : step s = .next t) :
    (decodeTransaction s.cfg s.fetch = .ok .reset ∧ s.cfgIn.wf = true ∧ t = s.advance.afterReset) ∨
    (decodeTransaction s.cfg s.fetch = .ok .ms ∧ exec .ms s.advance = .next t) ∨
    (∃ i, i ≠ .reset ∧ decodeTransaction s.cfg s.fetch = .ok i ∧ s.cfg.wf = true ∧
      (PortEventKeeps s.snap s t ∨ ∃ req, i = .control req ∧ PortEventKeeps (s.snap.merge req) s t)) := by
  obtain ⟨i, hd, h⟩ := step_next h
  by_cases hreset : i = .reset
  · subst hreset
    obtain ⟨hw, ht⟩ := exec_reset_next h
    exact .inl ⟨hd, hw, ht⟩
  · right
    by_cases hms : i = .ms
    · subst hms
      exact .inl ⟨hd, h⟩
    · exact .inr ⟨i, hreset, hd, exec_next_admitted (s := s.advance) hreset h,
        (exec_portEvent_keeps hd hreset hms h).imp .of_advance fun ⟨req, hi, hk⟩ => ⟨req, hi, .of_advance hk⟩⟩

/-- Settles O45. -/
theorem receivedBytesOnlyJoinTheFifo : Obligations.ReceivedBytesOnlyJoinTheFifo :=
  fun _ bytes hw => exec_rx bytes hw

/-- Settles O51, by the event the step runs. -/
theorem onlyResetLatchesTheConfiguration : Obligations.OnlyResetLatchesTheConfiguration := by
  intro s t h
  rcases step_cases h with ⟨hd, hw, rfl⟩ | ⟨hd, hms⟩ | ⟨i, hi, hd, hw, hport⟩
  · exact ⟨rfl, hw, fun _ => rfl, fun hne => absurd hd hne⟩
  · have hk := exec_ms_keeps hms
    have hcfg : t.cfg = s.cfg := hk.cfg
    exact ⟨hk.cfgIn, hcfg ▸ (execMs_next hms).1, fun hr => by simp [hd] at hr, fun _ => hcfg⟩
  · obtain ⟨hcfg, hcfgIn⟩ : t.cfg = s.cfg ∧ t.cfgIn = s.cfgIn := by
      rcases hport with hk | ⟨_, -, hk⟩ <;> exact ⟨hk.cfg, hk.cfgIn⟩
    exact ⟨hcfgIn, hcfg ▸ hw, fun hr => absurd (Except.ok.inj (hd.symm.trans hr)) hi, fun _ => hcfg⟩

/-! ## What `MS` interprets -/

/-- The three registers that an interpreted response writes are as before (10_state.md R23, R25, R26). -/
structure ReadingsKept (s t : State) : Prop where
  snap : t.snap = s.snap := by rfl
  tel : t.tel = s.tel := by rfl
  forceRefresh : t.forceRefresh = s.forceRefresh := by rfl

theorem ReadingsKept.trans {s t u : State} (h : ReadingsKept s t) (h' : ReadingsKept t u) : ReadingsKept s u :=
  ⟨h'.snap.trans h.snap, h'.tel.trans h.tel, h'.forceRefresh.trans h.forceRefresh⟩

/-- What interpreting the response `i` in `s` leaves of the snapshot and the forced refresh (44_interpreter.md R201,
R212). -/
inductive Interpreted (s t : State) : Instr → Prop
  | query (hdr q : List Byte) (snap : t.snap = querySnapshot s q) (forceRefresh : t.forceRefresh = false) :
      Interpreted s t (.rQuery hdr q)
  | queryExt (hdr q : List Byte) (snap : t.snap = { s.snap with target := extTarget s q })
      (forceRefresh : t.forceRefresh = s.forceRefresh) : Interpreted s t (.rQueryExt hdr q)

/-- Sub-steps after the interpreter that keep the three registers leave what it wrote. -/
theorem Interpreted.trans_kept {s t u : State} {i : Instr} (h : Interpreted s t i) (h' : ReadingsKept t u) :
    Interpreted s u i := by
  cases h with
  | query hdr q hs hf => exact .query hdr q (h'.snap.trans hs) (h'.forceRefresh.trans hf)
  | queryExt hdr q hs hf => exact .queryExt hdr q (h'.snap.trans hs) (h'.forceRefresh.trans hf)

/-- The interpreter reads the configuration, the snapshot, the forced refresh and the reading held only. -/
theorem Interpreted.of_sameInputs {r s t : State} {i : Instr} (h : Interpreted s t i)
    (hin : (s.cfg, s.snap, s.forceRefresh, s.remote) = (r.cfg, r.snap, r.forceRefresh, r.remote)) :
    Interpreted r t i := by
  simp only [Prod.mk.injEq] at hin
  obtain ⟨hcfg, hsnap, hf, hremote⟩ := hin
  cases h with
  | query hdr q hs ht => exact .query hdr q (by simpa [querySnapshot, hcfg, hsnap, hf, hremote] using hs) ht
  | queryExt hdr q hs ht => exact .queryExt hdr q (by simpa [extTarget, hcfg, hsnap] using hs) (ht.trans hf)

/-- Routing interprets a query or query-extended response that does not answer `SET`, and nothing else (45_sequencer.md
R241). -/
theorem Routed.interpreted {s u : State} {i : Instr} (h : Routed s i u) :
    ReadingsKept s u ∨ (s.lastSent ≠ some .set ∧ Interpreted s u i) := by
  cases h with
  | toSet | set | followMe | unknown => exact .inl {}
  | query hdr q hs => exact .inr ⟨hs, .query hdr q (by rw [State.applyQuery_eq]) (by rw [State.applyQuery_eq])⟩
  | queryExt hdr q hs =>
    exact .inr ⟨hs, .queryExt hdr q (by rw [State.applyQueryExt_eq]) (by rw [State.applyQueryExt_eq])⟩

/-- The FIFO is full and its capture is the response `i` to a command other than `SET` (R239-R241). -/
structure Captures (s : State) (i : Instr) : Prop where
  lastSent : s.lastSent ≠ some .set
  length : s.rxFifo.length = rxLen
  decoded : decodeRx s.cfg (Memory.load s.drain.rx 0 rxLen) = .ok i

/-- The receive step writes the three registers only where it interprets the response it captured. -/
theorem Received.interpreted {s u : State} {o : Option SendState} (h : Received s u o) :
    ReadingsKept s u ∨ ∃ i, Captures s i ∧ Interpreted s u i := by
  cases h with
  | length => exact .inl {}
  | invalid => rw [State.raiseReject_eq]; exact .inl {}
  | valid i _ hl hd hr =>
    rcases hr.interpreted with hk | ⟨hs, hi⟩
    · exact .inl (ReadingsKept.trans (t := s.drain) {} hk)
    · exact .inr ⟨i, ⟨hs, hl, hd⟩, hi.of_sameInputs rfl⟩

/-- The window writes the three registers only where it closes over a response that is interpreted (R233). -/
theorem State.window_interpreted {s w : State} (h : s.window = .next w) :
    ReadingsKept s w ∨ s.winArmed = true ∧ s.winCtr = 1 ∧ ∃ i, Captures s i ∧ Interpreted s w i := by
  rcases s.window_cases with ⟨-, hw⟩ | ⟨-, -, hw⟩ | ⟨ha, hc, hw⟩ <;> rw [hw] at h
  · cases h; exact .inl {}
  · cases h; exact .inl {}
  · obtain ⟨u, p, hr, rfl⟩ := State.receive_next h
    rcases hr.interpreted with hk | ⟨i, hcap, hi⟩
    · exact .inl ⟨hk.snap, hk.tel, hk.forceRefresh⟩
    · exact .inr ⟨ha, hc, i, ⟨hcap.lastSent, hcap.length, hcap.decoded⟩, (hi.trans_kept {}).of_sameInputs rfl⟩

/-- A frame's own effects are on the follow-me registers (43_frames.md R189). -/
theorem FrameEffect.readingsKept {s u : State} {c : Cmd} (h : FrameEffect s c u) : ReadingsKept s u := by
  cases h <;> exact {}

/-- The scheduler and the tick interpret nothing. -/
theorem State.schedule_readingsKept (s : State) : ReadingsKept s s.schedule := by
  obtain ⟨hs, -⟩ := s.schedule_frame
  rw [hs]
  exact {}

theorem State.tick_readingsKept {s t : State} (h : s.tick = .next t) : ReadingsKept s t := by
  rcases s.tick_cases with ⟨-, ht⟩ | ⟨-, -, ht⟩ | ⟨_, _, -, -, -, ht⟩ | ⟨_, i, -, -, -, hi, ht⟩ <;> rw [ht] at h
  · cases h; exact {}
  · cases h; exact {}
  · cases h; exact {}
  · obtain ⟨c, p, u, -, -, hu, he⟩ := exec_transmit hi { s with tickCtr := 0 }
    obtain ⟨-, h⟩ := whenAdmitted_next (he.symm.trans h)
    have hk := hu.readingsKept
    cases h
    exact ⟨hk.snap, hk.tel, hk.forceRefresh⟩

/-- `MS` writes the three registers only where its window closes over a response that is interpreted (R231). -/
theorem exec_ms_interpreted {s t : State} (h : exec .ms s = .next t) :
    ReadingsKept s t ∨ s.winArmed = true ∧ s.winCtr = 1 ∧ ∃ i, Captures s i ∧ Interpreted s t i := by
  obtain ⟨-, w, hwin, ht⟩ := execMs_next h
  have hlater := w.schedule_readingsKept.trans (State.tick_readingsKept ht)
  rcases State.window_interpreted hwin with hk | ⟨ha, hc, i, hcap, hi⟩
  · exact .inl ((ReadingsKept.trans (t := s.tickTime) {} hk).trans hlater)
  · exact .inr ⟨ha, hc, i, ⟨hcap.lastSent, hcap.length, hcap.decoded⟩, (hi.trans_kept hlater).of_sameInputs rfl⟩

/-- In canonical form the buffer captures the FIFO's own bytes, so that the captured response is the one routed next
(20_memory.md R60, 45_sequencer.md R239). -/
theorem Captures.routesNext {s : State} {i : Instr} (h : Captures s i) (hbuf : s.BuffersWf)
    (hms : decodeTransaction s.cfg s.fetch = .ok .ms) (ha : s.winArmed = true) (hc : s.winCtr = 1) :
    RoutesNext s i := by
  refine ⟨hms, ha, hc, h.lastSent, ?_⟩
  rw [← State.load_drain hbuf.2 h.length]
  exact h.decoded

/-- Settles O53, by the event the step runs and, in `MS`, the response it interprets. -/
theorem snapshotAndTelemetryHaveTheirWriters : Obligations.SnapshotAndTelemetryHaveTheirWriters := by
  intro s t hbuf h hreset
  rcases step_cases h with ⟨hd, -⟩ | ⟨hd, hms⟩ | ⟨i, -, hd, -, hk | ⟨req, rfl, hk⟩⟩
  · exact absurd hd hreset
  · rcases exec_ms_interpreted hms with hk | ⟨ha, hc, i, hcap, hi⟩
    · exact ⟨fun hne => absurd hk.snap hne, fun hne => absurd hk.tel hne, fun hne => absurd hk.forceRefresh hne⟩
    · have hr : RoutesNext s i :=
        Captures.routesNext ⟨hcap.lastSent, hcap.length, hcap.decoded⟩ hbuf hd ha hc
      cases hi with
      | query hdr q _ hf =>
        exact ⟨fun _ => .inr (.inl ⟨hdr, q, hr⟩), fun _ => .inl ⟨hdr, q, hr⟩, fun _ => ⟨hf, hdr, q, hr⟩⟩
      | queryExt hdr q _ hf =>
        exact ⟨fun _ => .inr (.inr ⟨hdr, q, hr⟩), fun _ => .inr ⟨hdr, q, hr⟩, fun hne => absurd hf hne⟩
  · exact ⟨fun hne => absurd hk.snap hne, fun hne => absurd hk.tel hne, fun hne => absurd hk.forceRefresh hne⟩
  · exact ⟨fun _ => .inl ⟨req, hd⟩, fun hne => absurd hk.tel hne, fun hne => absurd hk.forceRefresh hne⟩

/-! ## Known fields of the snapshot -/

/-- Every field of `a` that is known is known in `b` (60_exceptions.md R291). -/
def Snapshot.KnownIn (a b : Snapshot) : Prop :=
  (a.mode ≠ none → b.mode ≠ none) ∧ (a.fan ≠ none → b.fan ≠ none) ∧ (a.target ≠ none → b.target ≠ none) ∧
  (a.swing ≠ none → b.swing ≠ none) ∧ (a.preset ≠ none → b.preset ≠ none) ∧ (a.action ≠ none → b.action ≠ none) ∧
  (a.current ≠ none → b.current ≠ none)

theorem Snapshot.knownIn_self (a : Snapshot) : a.KnownIn a := ⟨id, id, id, id, id, id, id⟩

/-- A value taken from one of two places is known where the second holds one. -/
theorem orElse_ne_none {α : Type} (x : Option α) {y : Option α} (h : y ≠ none) : (x.orElse fun _ => y) ≠ none := by
  cases x <;> simp [h]

/-- A control request only adds to what is known (10_state.md R45, 45_sequencer.md R245). -/
theorem Snapshot.knownIn_merge (a : Snapshot) (req : ControlReq) : a.KnownIn (a.merge req) :=
  ⟨orElse_ne_none _, orElse_ne_none _, orElse_ne_none _, orElse_ne_none _, orElse_ne_none _, id, id⟩

/-- A query response only adds to what is known (44_interpreter.md R202-R208). -/
theorem knownIn_querySnapshot (s : State) (q : List Byte) : s.snap.KnownIn (querySnapshot s q) := by
  refine ⟨orElse_ne_none _, orElse_ne_none _, fun h => ?_, fun _ => by simp [querySnapshot],
    fun _ => by simp [querySnapshot], orElse_ne_none _, fun h => ?_⟩
  · simp only [querySnapshot]
    split
    · exact h
    · simp
  · simp only [querySnapshot]
    split
    · simp
    · exact orElse_ne_none _ h

/-- A query-extended response only adds to what is known (R213). -/
theorem knownIn_extTarget (s : State) (q : List Byte) : s.snap.KnownIn { s.snap with target := extTarget s q } := by
  refine ⟨id, id, fun h => ?_, id, id, id, id⟩
  simp only [extTarget]
  split
  · simp
  · exact h

theorem Interpreted.knownIn {s t : State} {i : Instr} (h : Interpreted s t i) : s.snap.KnownIn t.snap := by
  cases h with
  | query hdr q hs => rw [hs]; exact knownIn_querySnapshot s q
  | queryExt hdr q hs => rw [hs]; exact knownIn_extTarget s q

/-- Settles O54: every writer of the snapshot but `RESET` only adds to it. -/
theorem knownSnapshotFieldsStayKnown : Obligations.KnownSnapshotFieldsStayKnown := by
  intro s t h hreset
  change s.snap.KnownIn t.snap
  rcases step_cases h with ⟨hd, -⟩ | ⟨-, hms⟩ | ⟨i, -, -, -, hk | ⟨req, -, hk⟩⟩
  · exact absurd hd hreset
  · rcases exec_ms_interpreted hms with hk | ⟨-, -, i, -, hi⟩
    · rw [hk.snap]; exact s.snap.knownIn_self
    · exact hi.knownIn
  · rw [hk.snap]; exact s.snap.knownIn_self
  · rw [hk.snap]; exact s.snap.knownIn_merge req

/-! ## Right after reset -/

/-- The reference configuration passes every check (30_encoding.md R95, R105). -/
theorem refConfig_wf : Config.ref.wf = true := by decide

/-- With no exchange in flight, nothing pending and a temperature report next, the invariants hold (10_state.md R37). -/
theorem State.resetWith_inv (c : Config) : (State.resetWith c).Inv where
  pendingOnlyAwaiting h := absurd rfl h
  windowIffAwaiting := by simp [State.windowIffAwaiting, State.resetWith]
  awaitingKnowsCommand := nofun
  staticPressureInRange := nofun

/-- With a positive tick period and no response awaited, the clocks agree (45_sequencer.md R235). -/
theorem State.resetWith_timingWf {c : Config} (h : 0 < c.tickMs) : (State.resetWith c).TimingWf where
  tickBelow := h
  awaitingPositive := nofun
  awaitingSum := nofun

/-- Settles O38. -/
theorem resetStateIsTheSpecs : Obligations.ResetStateIsTheSpecs :=
  ⟨rfl, rfl, rfl, rfl, rfl, rfl, rfl, rfl, rfl, rfl, rfl, rfl, rfl, rfl, rfl, rfl, rfl, rfl, rfl, rfl,
    refConfig_wf, State.resetWith_inv _, ⟨rfl, rfl⟩, State.resetWith_timingWf (by decide), fun h => absurd rfl h⟩

end Sys2Proof.Machine
end

section
/-! The receive buffer and the 16-bit words of a frame (20_memory.md R60-R63): what the drain leaves in the buffer, that
the close of the window runs the frame it holds, and the two orders of a word's bytes. -/

namespace Sys2Proof

/-- A word is its high byte times 256 and its low byte (00_scope.md R12). -/
theorem word16_toNat (hi lo : Byte) : (word16 hi lo).toNat = hi.toNat * 256 + lo.toNat := by
  rw [word16, BitVec.toNat_append, ← Nat.shiftLeft_add_eq_or_of_lt lo.isLt, Nat.shiftLeft_eq]

/-- Only a frame of full length decodes (41_codec.md R125). -/
theorem decodeRx_ok_length {cfg : Config} {f : List Byte} {i : Instr} (h : decodeRx cfg f = .ok i) :
    f.length = 32 := by
  unfold decodeRx at h
  split at h
  · cases h
  · next hl => exact not_not.mp hl

end Sys2Proof

namespace Sys2Proof.Machine

/-! ## The words of a payload -/

/-- The byte after the one at a payload offset. -/
theorem payloadByte_succ (q : List Byte) {o : Nat} (h : 6 ≤ o) : payloadByte q (o + 1) = q.getD (o - 6 + 1) 0 := by
  rw [payloadByte, Nat.sub_add_comm h]

/-- Settles O11: the word order chooses which of the two bytes is the high one. -/
theorem flagWordsFollowTheWordOrder : Obligations.FlagWordsFollowTheWordOrder := by
  intro cfg q o ho
  constructor <;> intro horder <;> rw [wordAt, horder, word16_toNat, payloadByte_succ q ho, payloadByte]

/-! ## The drained receive buffer -/

/-- A full FIFO is counted as 32 bytes and removed (45_sequencer.md R239). -/
theorem State.drain_of_full {s : State} (hl : s.rxFifo.length = rxLen) :
    s.drain = { s with rx := s.drain.rx, rxCount := 32, rxFifo := [] } := by
  have hcount : s.drain.rxCount = 32 := by rw [State.drain_rxCount, hl]; rfl
  rw [← hcount, ← State.drain_eq]

/-- A full FIFO drains into the whole receive buffer, and into nothing past it (20_memory.md R62; 45_sequencer.md
R239). -/
theorem State.read_drain_rx {s : State} (hw : Memory.wf rxLen s.rx = true) (hl : s.rxFifo.length = rxLen) (a : Nat) :
    Memory.read s.drain.rx a = if a < rxLen then s.rxFifo.getD a 0 else Memory.read s.rx a := by
  rw [State.drain_rx, List.take_of_length_le hl.le, Memory.read_store rxLen _ _ 0 a (by omega) hw]
  simp [hl]

/-- The receive step over a valid frame runs that frame on the drained state (45_sequencer.md R239-R241). -/
theorem State.receive_eq_exec {s : State} {i : Instr} (hw : Memory.wf rxLen s.rx = true)
    (hi : decodeRx s.cfg s.rxFifo = .ok i) : s.receive = exec i s.drain := by
  have hl : s.rxFifo.length = rxLen := decodeRx_ok_length hi
  rw [State.receive, if_neg (not_not.mpr hl), State.load_drain hw hl, hi]
  exact runResponse_eq_exec (decodeRx_isResponse hi) s.drain

/-- Settles O22: the state it names is the drain of the state with the window disarmed. -/
theorem windowRunsTheReceivedFrame : Obligations.WindowRunsTheReceivedFrame := by
  intro s i hbuf harmed hctr hi
  obtain ⟨-, hrx⟩ := hbuf
  have hl : s.rxFifo.length = rxLen := decodeRx_ok_length hi
  refine ⟨State.drain { s with winCtr := 0, winArmed := false }, ?_, fun a ha => ?_, fun a ha => ?_, ?_⟩
  · exact State.drain_of_full hl
  · exact (State.read_drain_rx hrx hl a).trans (if_pos ha)
  · exact (State.read_drain_rx hrx hl a).trans (if_neg (Nat.not_lt.mpr ha))
  · exact (State.window_closes harmed hctr).trans (State.receive_eq_exec hrx hi)

end Sys2Proof.Machine
end

section
/-! Encoding undoes decoding (30_encoding.md R80-R94): a frame that passes its checks is built from its own fields, and
a payload that decodes is laid out from what it decodes to. -/

namespace Sys2Proof

open Sys2Proof.Machine

/-! ## Frames from their fields -/

/-- A frame with its checksum byte cleared is its body: code, header, payload and marker (30_encoding.md R80, R82). -/
theorem set_checksum_eq_body {f : List Byte} {n : Nat} (hl : f.length = n + 8) :
    f.set (n + 6) 0 =
      [f.getD 0 0, f.getD 1 0] ++ (f.drop 2).take 4 ++ (f.drop 6).take n ++ [0x00, f.getD (n + 7) 0] := by
  have hcode : f.take 2 = [f.getD 0 0, f.getD 1 0] := by
    match f, hl with
    | _ :: _ :: _, _ => rfl
  have hmarker : f.drop (n + 7) = [f.getD (n + 7) 0] := by
    rw [List.drop_eq_getElem_cons (by omega), List.drop_of_length_le (by omega), List.getD_eq_getElem f 0 (by omega)]
  calc f.set (n + 6) 0
      = f.take (6 + n) ++ 0x00 :: f.drop (n + 7) := by
        rw [List.set_eq_take_append_cons_drop, if_pos (by omega), Nat.add_comm 6 n]
    _ = f.take 2 ++ (f.drop 2).take 4 ++ (f.drop 6).take n ++ 0x00 :: f.drop (n + 7) := by
        rw [List.take_add, show f.take 6 = f.take 2 ++ (f.drop 2).take 4 from List.take_add (i := 2) (j := 4)]
    _ = _ := by rw [hcode, hmarker]

/-- Putting the checksum into a frame whose checksum byte was right gives the frame back (41_codec.md R121). -/
theorem withChecksum_set {f : List Byte} {k : Nat} (h : f.getD k 0 = checksum f k) (hk : k < f.length) (v : Byte) :
    withChecksum (f.set k v) k = f := by
  rw [withChecksum, checksum_set, List.set_set, ← h, List.getD_eq_getElem f 0 hk, List.set_getElem_self]

/-- A frame of `n` payload bytes that passes its checks is built from its code, header and payload. -/
theorem withChecksum_body {f : List Byte} {n : Nat} (hl : f.length = n + 8)
    (h : checkFrame f (n + 6) (n + 7) = .ok ()) :
    withChecksum ([preamble, f.getD 1 0] ++ (f.drop 2).take 4 ++ (f.drop 6).take n ++ [0x00, marker]) (n + 6) = f := by
  obtain ⟨hpre, hmk, hcs⟩ := (checkFrame_ok_iff f (n + 6) (n + 7)).mp h
  rw [← hpre, ← hmk, ← set_checksum_eq_body hl, withChecksum_set hcs (by omega)]

/-- What a receive frame that decodes passed, and what it is (41_codec.md R125). -/
theorem decodeRx_ok {cfg : Config} {f : List Byte} {i : Instr} (h : decodeRx cfg f = .ok i) :
    f.length = 32 ∧ checkFrame f 30 31 = .ok () ∧
    i = rxInstr cfg (f.getD 1 0) ((f.drop 2).take 4) ((f.drop 6).take 24) := by
  unfold decodeRx at h
  split at h
  · cases h
  · next hl =>
    split at h
    · cases h
    · next hc => exact ⟨not_not.mp hl, hc, (Except.ok.inj h).symm⟩

/-- What a transmit frame that decodes passed, and the payload that decodes in it. -/
theorem decodeTx_ok {cfg : Config} {f : List Byte} {i : Instr} (h : decodeTx cfg f = .ok i) :
    f.length = 16 ∧ checkFrame f 14 15 = .ok () ∧ (f.drop 2).take 4 = cfg.txId.toList ∧
    decodeTxPayload cfg (f.getD 1 0) ((f.drop 6).take 8) = .ok i := by
  unfold decodeTx at h
  split at h
  · cases h
  · next hl =>
    split at h
    · cases h
    · next hc =>
      split at h
      · cases h
      · next hid => exact ⟨not_not.mp hl, hc, not_not.mp hid, h⟩

/-! ## Codes -/

/-- A code that names a command is that command's code (30_encoding.md R85). -/
theorem codeOf_of_cmdOfCode {cfg : Config} {code : Byte} {c : Cmd} (h : cmdOfCode cfg code = some c) :
    codeOf cfg c = code := by
  unfold cmdOfCode at h
  split_ifs at h with hq he hs hf <;> cases h
  exacts [hq.symm, he.symm, hs.symm, hf.symm]

/-- A code that names no command is none of the four. -/
theorem not_contains_of_cmdOfCode_eq_none {cfg : Config} {code : Byte} (h : cmdOfCode cfg code = none) :
    [cmdQuery, cfg.cmdQueryExt, cfg.cmdSet, cfg.cmdFollowMe].contains code = false := by
  unfold cmdOfCode at h
  split_ifs at h with hq he hs hf
  simp [hq, he, hs, hf]

/-! ## Payloads from their instructions -/

/-- A candidate is accepted exactly with its own layout. -/
theorem acceptPayload_ok {candidate i : Instr} {expected p : List Byte}
    (h : acceptPayload candidate expected p = .ok i) : i = candidate ∧ p = expected := by
  unfold acceptPayload at h
  split at h
  · next he => exact ⟨(Except.ok.inj h).symm, he.symm⟩
  · cases h

/-- The payload `p` under the command `c` is the one the instruction `i` is encoded with. -/
def EncodesAs (cfg : Config) (i : Instr) (c : Cmd) (p : List Byte) : Prop :=
  encode cfg i = .txFrame (encodeTx cfg c p) ∧ i.wf cfg = true

/-- A set payload that decodes (R89). -/
theorem decodeSetPayload_ok {cfg : Config} {p : List Byte} {i : Instr} (h : decodeSetPayload cfg p = .ok i) :
    EncodesAs cfg i .set p := by
  simp only [decodeSetPayload] at h
  split at h
  · obtain ⟨rfl, hp⟩ := acceptPayload_ok h
    exact ⟨by rw [encode, ← hp], rfl⟩
  · cases h

/-- A follow-me payload that decodes (R86, R90). -/
theorem decodeFmPayload_ok {cfg : Config} {p : List Byte} {i : Instr} (h : decodeFmPayload cfg p = .ok i) :
    EncodesAs cfg i .followMe p := by
  simp only [decodeFmPayload] at h
  split_ifs at h <;> obtain ⟨rfl, hp⟩ := acceptPayload_ok h <;> exact ⟨by rw [encode, ← hp], rfl⟩

/-- A transmit payload that decodes under a code (R85, R87-R90). -/
theorem decodeTxPayload_ok {cfg : Config} {code : Byte} {p : List Byte} {i : Instr}
    (h : decodeTxPayload cfg code p = .ok i) : ∃ c, codeOf cfg c = code ∧ EncodesAs cfg i c p := by
  unfold decodeTxPayload at h
  split at h
  · next hc =>
    obtain ⟨rfl, rfl⟩ := acceptPayload_ok h
    exact ⟨.query, codeOf_of_cmdOfCode hc, rfl, rfl⟩
  · next hc =>
    obtain ⟨rfl, rfl⟩ := acceptPayload_ok h
    exact ⟨.queryExt, codeOf_of_cmdOfCode hc, rfl, rfl⟩
  · next hc => exact ⟨.set, codeOf_of_cmdOfCode hc, decodeSetPayload_ok h⟩
  · next hc => exact ⟨.followMe, codeOf_of_cmdOfCode hc, decodeFmPayload_ok h⟩
  · cases h

/-! ## Frames -/

/-- A transmit frame that decodes is the encoding of what it decodes to. -/
theorem encode_of_decodeTx {cfg : Config} {f : List Byte} {i : Instr} (h : decodeTx cfg f = .ok i) :
    encode cfg i = .txFrame f ∧ i.wf cfg = true := by
  obtain ⟨hl, hc, hid, hp⟩ := decodeTx_ok h
  obtain ⟨c, hcode, henc, hwf⟩ := decodeTxPayload_ok hp
  refine ⟨?_, hwf⟩
  rw [henc, encodeTx, hcode, ← hid]
  exact congrArg _ (withChecksum_body hl hc)

/-- The receive frame that `rxInstr` names is encoded with the code, header and payload it was read from (R82, R85). -/
theorem encode_rxInstr (cfg : Config) (code : Byte) (hdr q : List Byte) :
    encode cfg (rxInstr cfg code hdr q) = .rxFrame (encodeRx code hdr q) := by
  unfold rxInstr
  split
  · next hc => rw [encode, codeOf_of_cmdOfCode hc]
  · next hc => rw [encode, codeOf_of_cmdOfCode hc]
  · next hc => rw [encode, codeOf_of_cmdOfCode hc]
  · next hc => rw [encode, codeOf_of_cmdOfCode hc]
  · rfl

/-- It is well-formed with a header and payload of the frame's lengths (R82). -/
theorem rxInstr_wf {cfg : Config} (code : Byte) {hdr q : List Byte} (h : rxShape hdr q = true) :
    (rxInstr cfg code hdr q).wf cfg = true := by
  unfold rxInstr
  split
  · exact h
  · exact h
  · exact h
  · exact h
  · next hc => simp only [Instr.wf, h, not_contains_of_cmdOfCode_eq_none hc, Bool.not_false, Bool.and_self]

/-- A receive frame that decodes is the encoding of what it decodes to. -/
theorem encode_of_decodeRx {cfg : Config} {f : List Byte} {i : Instr} (h : decodeRx cfg f = .ok i) :
    encode cfg i = .rxFrame f ∧ i.wf cfg = true := by
  obtain ⟨hl, hc, rfl⟩ := decodeRx_ok h
  refine ⟨?_, rxInstr_wf _ (by simp [rxShape, hl])⟩
  rw [encode_rxInstr]
  exact congrArg _ (withChecksum_body hl hc)

/-- Settles O2: a frame that passes its checks is built from its own fields, in both directions. -/
theorem decodedFramesAreEncodings : Obligations.DecodedFramesAreEncodings :=
  ⟨fun _ _ _ h => encode_of_decodeTx h, fun _ _ _ h => encode_of_decodeRx h⟩

/-- Settles O5: each frame is given byte by byte, so that the decoder evaluates on it. -/
theorem specFramesDecode : Obligations.SpecFramesDecode := by
  refine ⟨?_, ?_, ?_, ?_, ?_, ?_, ?_⟩ <;> decide

end Sys2Proof
end

section
/-! The six transmit frames complete (43_frames.md R181-R189; 45_sequencer.md R237): the bytes of a built frame, the
payloads by their offsets, and what a send leaves. -/

namespace Sys2Proof

open Sys2Proof.Machine

/-! ## A built frame -/

/-- A right checksum byte makes all bytes sum to `0xFF` (41_codec.md R122). -/
theorem sum_mod_of_checksum {f : List Byte} {k : Nat} (hk : k < f.length) (h : f.getD k 0 = checksum f k) :
    (f.map BitVec.toNat).sum % 256 = 0xFF := by
  have hself : (f.getD k 0).toNat = (0xFF - BitVec.ofNat 8 (sumSkip f k) : Byte).toNat := congrArg BitVec.toNat h
  rw [sum_eq_sumSkip_add f k hk, hself, BitVec.toNat_sub, BitVec.toNat_ofNat]
  change (sumSkip f k + (2 ^ 8 - sumSkip f k % 2 ^ 8 + 255) % 2 ^ 8) % 256 = 255
  omega

/-- A byte of a slice is the frame's byte at its own index. -/
theorem getD_of_take_drop_eq {f p : List Byte} {a n k : Nat} (h : (f.drop a).take n = p) (hk : k < n) :
    f.getD (a + k) 0 = p.getD k 0 := by
  rw [← h]
  simp [List.getD_eq_getElem?_getD, hk]

/-- The encoder builds the transmit frame of the table of 30_encoding.md R80. -/
theorem isTxFrame_encodeTx (cfg : Config) (c : Cmd) {p : List Byte} (hp : p.length = 8) :
    IsTxFrame cfg c p (encodeTx cfg c p) := by
  obtain ⟨hpre, hcmd, hid, hpay, hcs, hmk⟩ := encodeTx_bytes cfg c p hp
  have hl := encodeTx_length cfg c p hp
  exact ⟨hl, hpre, hcmd, fun _ => getD_of_take_drop_eq hid, fun _ => getD_of_take_drop_eq hpay,
    sum_mod_of_checksum (by omega) hcs, hmk⟩

/-! ## Payloads by their offsets -/

/-- What a field reads as after a put (43_frames.md R180). -/
theorem payloadByte_put {p : List Byte} {o o' : Nat} (v : Byte) (hlen : p.length = 8) (ho : inTxPayload o = true)
    (ho' : inTxPayload o' = true) :
    payloadByte (put p o' v) o = if o = o' then v else payloadByte p o := by
  split
  · next h => rw [← h]; exact payloadByte_put_self v hlen ho
  · next h => exact payloadByte_put_ne p v ho ho' (Ne.symm h)

/-- Nothing put, every field reads as zero. -/
theorem payloadByte_zero8 (o : Nat) : payloadByte zero8 o = 0 := by
  rw [payloadByte, zero8, List.getD_eq_getElem?_getD, List.getElem?_getD_replicate_default_eq]

/-- The encoder's set payload is the table's (30_encoding.md R89). -/
theorem isSetPayload_setPayload {cfg : Config} (h : cfg.wfSetOffs = true) (m : Mode) (f : Fan) (temp : Byte)
    (sw : Bool) (pr : Preset) : IsSetPayload cfg m f temp sw pr (setPayload cfg m f temp sw pr) := by
  refine ⟨setPayload_length .., fun o hlo hhi => ?_⟩
  obtain ⟨hm, hf, ht, hg⟩ := setPayload_fields h m f temp sw pr
  have ho : inTxPayload o = true := by simp [inTxPayload, hlo, hhi]
  have hin : ∀ x ∈ cfg.setOff.list, inTxPayload x = true := by
    simp only [Config.wfSetOffs, Bool.and_eq_true, List.all_eq_true] at h
    exact h.2
  simp only [SetOffsets.list, List.forall_mem_cons] at hin
  obtain ⟨hm', hf', ht', hg', hstart, hstop, -⟩ := hin
  change payloadByte _ o = _
  split_ifs with h1 h2 h3 h4
  · rw [h1, hm]
  · rw [h2, hf]
  · rw [h3, ht]
  · rw [h4, hg]
  · simp [setPayload, payloadByte_put, payloadByte_put _ zero8_length, payloadByte_zero8, *]

/-- The encoder's follow-me payload is the table's (R90). -/
theorem isFmPayload_fmPayload {cfg : Config} (h : cfg.wfFmOffs = true) (sub temp sp : Byte) :
    IsFmPayload cfg sub temp sp (fmPayload cfg sub temp sp) := by
  refine ⟨fmPayload_length .., fun o hlo hhi => ?_⟩
  obtain ⟨hs, ht, hp⟩ := fmPayload_fields h sub temp sp
  have ho : inTxPayload o = true := by simp [inTxPayload, hlo, hhi]
  have hin : ∀ x ∈ cfg.fmOff.list, inTxPayload x = true := by
    simp only [Config.wfFmOffs, Bool.and_eq_true, List.all_eq_true] at h
    exact h.2
  simp only [FmOffsets.list, List.forall_mem_cons] at hin
  obtain ⟨hs', ht', hp', -⟩ := hin
  change payloadByte _ o = _
  split_ifs with h1 h2 h3
  · rw [h1, hs]
  · rw [h2, ht]
  · rw [h3, hp]
  · simp [fmPayload, payloadByte_put, payloadByte_put _ zero8_length, payloadByte_zero8, *]

end Sys2Proof

namespace Sys2Proof.Machine

/-! ## A send -/

/-- What a send leaves is a sent frame, whatever effects of its own the frame has (R237, 20_memory.md R72). -/
theorem sentFrame_encodeTx {s u : State} (c : Cmd) {p : List Byte} (hp : p.length = 8)
    (hbuf : Memory.wf txLen s.tx = true) :
    SentFrame c p s u { u with
      tx := Memory.store s.tx 0 (encodeTx s.cfg c p)
      out := s.out ++ [.txWrite (Memory.load (Memory.store s.tx 0 (encodeTx s.cfg c p)) 0 txLen), .txFlush]
      lastSent := some c
      state := .awaiting
      winArmed := true
      winCtr := s.cfg.windowMs } := by
  have hl : (encodeTx s.cfg c p).length = txLen := encodeTx_length s.cfg c p hp
  have hload := Memory.load_store txLen s.tx (encodeTx s.cfg c p) hl.le hbuf
  have hread := fun a => Memory.read_store txLen (encodeTx s.cfg c p) s.tx 0 a (by omega) hbuf
  rw [hl] at hload hread
  refine ⟨encodeTx s.cfg c p, isTxFrame_encodeTx s.cfg c hp, fun a ha => ?_, fun a ha => ?_, ?_⟩
  · exact (hread a).trans (if_pos ⟨a.zero_le, by rw [txLen]; omega⟩)
  · exact (hread a).trans (if_neg (by rw [txLen]; omega))
  · rw [hload]

/-- Settles O13: either frame is its command with a zero payload, sent with no effects of its own. -/
theorem queryFramesAreSent : Obligations.QueryFramesAreSent := by
  rintro s hw ⟨htx, -⟩
  exact ⟨⟨_, whenAdmitted_of_wf hw _, sentFrame_encodeTx .query zero8_length htx⟩,
    ⟨_, whenAdmitted_of_wf hw _, sentFrame_encodeTx .queryExt zero8_length htx⟩⟩

/-- Settles O14: the payload is the encoder's. -/
theorem setFrameIsSent : Obligations.SetFrameIsSent := by
  rintro s m f temp sw pr hw ⟨htx, -⟩
  obtain ⟨-, hset, -⟩ := Config.wf_encodingChecks hw
  exact ⟨_, _, isSetPayload_setPayload hset m f temp sw pr, whenAdmitted_of_wf hw _,
    sentFrame_encodeTx .set (setPayload_length ..) htx⟩

/-- Settles O15: the effects of R189 are the ones `exec` gives before the send. -/
theorem followMeTemperatureFramesAreSent : Obligations.FollowMeTemperatureFramesAreSent := by
  rintro s temp hw ⟨htx, -⟩
  obtain ⟨-, -, hfm, -⟩ := Config.wf_encodingChecks hw
  exact ⟨⟨_, _, isFmPayload_fmPayload hfm fmInitCode temp 0x00, whenAdmitted_of_wf hw _,
      sentFrame_encodeTx .followMe (fmPayload_length ..) htx⟩,
    ⟨_, _, isFmPayload_fmPayload hfm fmUpdateCode temp 0x00, whenAdmitted_of_wf hw _,
      sentFrame_encodeTx .followMe (fmPayload_length ..) htx⟩⟩

/-- Settles O16: the payload's value byte is the zero-extended nibble. -/
theorem staticPressureFrameIsSentOnce : Obligations.StaticPressureFrameIsSentOnce := by
  rintro s sp hw ⟨htx, -⟩
  obtain ⟨-, -, hfm, -⟩ := Config.wf_encodingChecks hw
  exact ⟨_, _, isFmPayload_fmPayload hfm fmStaticCode 0x00 (spToRaw sp), whenAdmitted_of_wf hw _,
    sentFrame_encodeTx .followMe (fmPayload_length ..) htx⟩

end Sys2Proof.Machine
end

section
/-! The clocks and the outputs of an exchange (45_sequencer.md R233-R238): no event but a tick counts, transmits or
starts an exchange, and the window and the tick counter stay in agreement. -/

namespace Sys2Proof.Machine

/-! ## Outputs without a frame -/

theorem framesOf_append (a b : List Output) : framesOf (a ++ b) = framesOf a ++ framesOf b := by
  induction a with
  | nil => rfl
  | cons o rest ih => cases o <;> simp [framesOf, ih]

/-- `t` adds outputs to those of `s`, none of them a frame. -/
def AddsNoFrame (s t : State) : Prop := ∃ added, t.out = s.out ++ added ∧ framesOf added = []

theorem AddsNoFrame.of_out_eq {s t : State} (h : t.out = s.out) : AddsNoFrame s t := ⟨[], by simp [h], rfl⟩

theorem AddsNoFrame.trans {s t u : State} (h : AddsNoFrame s t) (h' : AddsNoFrame t u) : AddsNoFrame s u := by
  obtain ⟨a, ha, hfa⟩ := h
  obtain ⟨b, hb, hfb⟩ := h'
  exact ⟨a ++ b, by rw [hb, ha, List.append_assoc], by rw [framesOf_append, hfa, hfb, List.append_nil]⟩

theorem AddsNoFrame.grows {s t : State} (h : AddsNoFrame s t) : ∃ added, t.out = s.out ++ added :=
  h.imp fun _ => And.left

theorem AddsNoFrame.framesOf_eq {s t : State} (h : AddsNoFrame s t) : framesOf t.out = framesOf s.out := by
  obtain ⟨a, ha, hf⟩ := h
  rw [ha, framesOf_append, hf, List.append_nil]

/-! ## What only a tick changes -/

/-- `t` follows `s` without a tick: the configuration, the tick counter and the transmit buffer are as before, and no
frame goes out. -/
structure NoTick (s t : State) : Prop where
  cfg : t.cfg = s.cfg := by rfl
  tickCtr : t.tickCtr = s.tickCtr := by rfl
  tx : t.tx = s.tx := by rfl
  out : AddsNoFrame s t := by exact .of_out_eq rfl

theorem NoTick.trans {s t u : State} (h : NoTick s t) (h' : NoTick t u) : NoTick s u :=
  ⟨h'.cfg.trans h.cfg, h'.tickCtr.trans h.tickCtr, h'.tx.trans h.tx, h.out.trans h'.out⟩

/-- `t` also keeps the window's remainder, and awaits a response where `s` does. -/
structure ExchangeKept (s t : State) : Prop extends NoTick s t where
  winCtr : t.winCtr = s.winCtr := by rfl
  awaiting : t.state = .awaiting ↔ s.state = .awaiting := by rfl

theorem ExchangeKept.trans {s t u : State} (h : ExchangeKept s t) (h' : ExchangeKept t u) : ExchangeKept s u :=
  ⟨h.toNoTick.trans h'.toNoTick, h'.winCtr.trans h.winCtr, h'.awaiting.trans h.awaiting⟩

/-! ## The events of the ports -/

/-- A request moves between send states or fills the pending slot (R246). -/
theorem State.request_exchangeKept (s : State) (target : SendState) : ExchangeKept s (s.request target) := by
  rw [State.request_eq]
  split
  · exact {}
  · next h => exact { awaiting := by simp [h] }

/-- A log record is no frame (60_exceptions.md R280). -/
theorem State.raise_exchangeKept (s : State) (r : LogRecord) : ExchangeKept s (s.raise r) :=
  { out := ⟨[.log r], rfl, rfl⟩ }

/-- `CONTROL` (R245). -/
theorem exec_control_exchangeKept {req : ControlReq} {s t : State} (h : exec (.control req) s = .next t) :
    ExchangeKept s t := by
  have haccept : ExchangeKept s (s.acceptControl req) :=
    ExchangeKept.trans (t := { s with
      snap := s.snap.merge req, fmInit := if modeChanges s.snap req then false else s.fmInit }) {}
      (State.request_exchangeKept _ _)
  obtain ⟨-, h⟩ := whenAdmitted_next h
  split at h
  · split at h <;> cases h
    · exact s.raise_exchangeKept _
    · exact haccept
  · cases h; exact haccept

/-- `STATIC_PRESSURE` (R248). -/
theorem exec_staticPressure_exchangeKept {v : Byte} {s t : State} (h : exec (.staticPressure v) s = .next t) :
    ExchangeKept s t := by
  obtain ⟨-, h⟩ := whenAdmitted_next h
  split at h
  · cases h; exact s.raise_exchangeKept _
  · split at h <;> cases h
    · exact s.raise_exchangeKept _
    · exact ExchangeKept.trans (t := { s with fmKind := .staticPressure, fmSp := spFromRaw v }) {}
        (State.request_exchangeKept _ _)

/-- `REMOTE_TEMP` (R249). -/
theorem exec_remoteTemp_exchangeKept {x : Temp} {s t : State} (h : exec (.remoteTemp x) s = .next t) :
    ExchangeKept s t := by
  obtain ⟨-, h⟩ := whenAdmitted_next h
  cases h
  split
  · exact {}
  · unfold State.newReading
    split <;> exact {}

/-- No event of the host, the sensor or the transport runs a tick or moves the exchange in flight. -/
theorem exec_portEvent_exchangeKept {cfg : Config} {tr : Transaction} {i : Instr} {s t : State}
    (hd : decodeTransaction cfg tr = .ok i) (hreset : i ≠ .reset) (hms : i ≠ .ms) (h : exec i s = .next t) :
    ExchangeKept s t := by
  rcases decodeTransaction_ok hd with rfl | rfl | ⟨req, rfl⟩ | ⟨v, rfl⟩ | ⟨x, rfl⟩ | ⟨bs, rfl⟩
  · exact absurd rfl hms
  · exact absurd rfl hreset
  · exact exec_control_exchangeKept h
  · exact exec_staticPressure_exchangeKept h
  · exact exec_remoteTemp_exchangeKept h
  · obtain ⟨-, h⟩ := whenAdmitted_next h
    cases h; exact {}

/-- A step that answers a next state ran a `RESET`, an `MS`, or an event that keeps the exchange. -/
theorem step_cases_exchange {s t : State} (h : step s = .next t) :
    (s.cfgIn.wf = true ∧ t = s.advance.afterReset) ∨
    (decodeTransaction s.cfg s.fetch = .ok .ms ∧ exec .ms s.advance = .next t) ∨
    ExchangeKept s t := by
  obtain ⟨i, hd, h⟩ := step_next h
  by_cases hreset : i = .reset
  · subst hreset; exact .inl (exec_reset_next h)
  · by_cases hms : i = .ms
    · subst hms; exact .inr (.inl ⟨hd, h⟩)
    · exact .inr (.inr (ExchangeKept.trans (t := s.advance) {} (exec_portEvent_exchangeKept hd hreset hms h)))

/-! ## `MS` before its tick -/

/-- Publishing a list of readings pushes readings only (44_interpreter.md R210). -/
@[simp] theorem framesOf_pushes (t : Telemetry) (rs : List Reading) : framesOf (pushes t rs) = [] := by
  induction rs generalizing t with
  | nil => rfl
  | cons r rs ih =>
    rw [pushes, framesOf_append, ih]
    split <;> rfl

/-- The records of unknown codes are logs (R202, R203). -/
@[simp] theorem framesOf_queryLogs (s : State) (q : List Byte) : framesOf (queryLogs s q) = [] := by
  rw [queryLogs, framesOf_append]
  split <;> split <;> rfl

/-- The end of a response notifies at most (R211). -/
@[simp] theorem framesOf_notifyUnless (p : Prop) [Decidable p] : framesOf (if p then [] else [.notify]) = [] := by
  split <;> rfl

/-- The interpreter publishes, notifies and logs (R201, R212, R215). -/
theorem Routed.addsNoFrame {s u : State} {i : Instr} (h : Routed s i u) : AddsNoFrame s u := by
  cases h with
  | toSet | set | followMe => exact .of_out_eq rfl
  | query hdr q =>
    rw [State.applyQuery_eq]
    exact ⟨_, by rw [List.append_assoc, List.append_assoc], by simp [framesOf_append]⟩
  | queryExt hdr q =>
    rw [State.applyQueryExt_eq]
    exact ⟨_, by rw [List.append_assoc], by simp [framesOf_append]⟩
  | unknown code => exact ⟨_, rfl, rfl⟩

/-- A rejected frame has at most its log record (60_exceptions.md R282-R285). -/
theorem State.raiseReject_addsNoFrame (s : State) (e : DecodeError) : AddsNoFrame s (s.raiseReject e) := by
  rw [State.raiseReject_eq]
  exact ⟨_, rfl, by cases rejectRecord e <;> rfl⟩

/-- The receive step sends nothing (R239-R241). -/
theorem Received.noTick {s u : State} {o : Option SendState} (h : Received s u o) : NoTick s u := by
  have hout : AddsNoFrame s u := by
    cases h with
    | length => exact ⟨_, rfl, rfl⟩
    | invalid e => exact s.drain.raiseReject_addsNoFrame e
    | valid i _ _ _ hr => exact hr.addsNoFrame
  obtain ⟨_, hu⟩ := h.frame
  exact { cfg := by rw [hu], tickCtr := by rw [hu], tx := by rw [hu], out := hout }

/-- `RECEIVE()` (R239-R244). -/
theorem State.receive_noTick {s t : State} (h : s.receive = .next t) : NoTick s t := by
  obtain ⟨u, p, hr, rfl⟩ := State.receive_next h
  exact hr.noTick.trans {}

/-- The response window (R233). -/
theorem State.window_noTick {s w : State} (h : s.window = .next w) : NoTick s w := by
  rcases s.window_cases with ⟨-, hw⟩ | ⟨-, -, hw⟩ | ⟨-, -, hw⟩ <;> rw [hw] at h
  · cases h; exact {}
  · cases h; exact {}
  · exact NoTick.trans (t := { s with winCtr := 0, winArmed := false }) {} (State.receive_noTick h)

/-- The scheduler's request (R234). -/
theorem State.schedule_exchangeKept (s : State) : ExchangeKept s s.schedule := by
  rcases s.schedule_cases with ⟨-, h⟩ | ⟨-, h⟩ <;> rw [h]
  · exact {}
  · exact ExchangeKept.trans (t := { s with fmLastMs := s.nowMs, fmChgArmed := false }) {}
      (State.request_exchangeKept _ _)

/-! ## The agreement of the clocks -/

/-- The clocks agree but for `uncounted` milliseconds that the window has counted and the tick counter has not: none
between events, one between the window and the tick of an `MS` (R232-R235). -/
structure State.ClocksAgree (uncounted : Nat) (s : State) : Prop where
  tickBelow : s.tickCtr < s.cfg.tickMs
  awaitingPositive : s.state = .awaiting → 0 < s.winCtr.toNat
  awaitingSum : s.state = .awaiting → s.tickCtr.toNat + uncounted + s.winCtr.toNat = s.cfg.windowMs.toNat

/-- Between events nothing is uncounted. -/
theorem State.timingWf_iff (s : State) : s.TimingWf ↔ s.ClocksAgree 0 :=
  ⟨fun ⟨hbelow, hpos, hsum⟩ => ⟨hbelow, hpos, hsum⟩, fun ⟨hbelow, hpos, hsum⟩ => ⟨hbelow, hpos, hsum⟩⟩

/-- The agreement reads only what is kept without a tick or a window. -/
theorem ExchangeKept.clocksAgree {n : Nat} {s t : State} (h : ExchangeKept s t) (hs : s.ClocksAgree n) :
    t.ClocksAgree n where
  tickBelow := by rw [h.tickCtr, h.cfg]; exact hs.tickBelow
  awaitingPositive ha := by rw [h.winCtr]; exact hs.awaitingPositive (h.awaiting.mp ha)
  awaitingSum ha := by rw [h.tickCtr, h.winCtr, h.cfg]; exact hs.awaitingSum (h.awaiting.mp ha)

/-- Where no response is awaited, only the tick counter's bound is left to agree. -/
theorem State.clocksAgree_of_not_awaiting {n : Nat} {s : State} (hs : s.state ≠ .awaiting)
    (ht : s.tickCtr < s.cfg.tickMs) : s.ClocksAgree n :=
  ⟨ht, fun h => absurd h hs, fun h => absurd h hs⟩

/-- A closed window leaves a send state (R242, R244). -/
theorem State.receive_leaves_awaiting {s t : State} (h : s.receive = .next t) : t.state ≠ .awaiting := by
  obtain ⟨u, p, -, rfl⟩ := State.receive_next h
  exact nofun

/-- The window counts this millisecond, or closes and leaves no response awaited (R233). -/
theorem State.window_clocksAgree {s w : State} (harmed : s.windowIffAwaiting) (ht : s.ClocksAgree 0)
    (h : s.window = .next w) : w.ClocksAgree 1 := by
  rcases s.window_cases with ⟨ha, hw⟩ | ⟨ha, hc, hw⟩ | ⟨-, -, hw⟩ <;> rw [hw] at h
  · cases h
    have hs : s.state ≠ .awaiting := fun hs => by simp [harmed.mpr hs] at ha
    exact State.clocksAgree_of_not_awaiting hs ht.tickBelow
  · cases h
    have hpos := ht.awaitingPositive (harmed.mp ha)
    have hsum := ht.awaitingSum (harmed.mp ha)
    have hctr : (s.winCtr - 1).toNat + 1 = s.winCtr.toNat := by bv_omega
    have hone : s.winCtr.toNat ≠ 1 := fun h1 => hc (BitVec.eq_of_toNat_eq h1)
    refine ⟨ht.tickBelow, fun _ => ?_, fun _ => ?_⟩
    · change 0 < (s.winCtr - 1).toNat
      omega
    · change s.tickCtr.toNat + 1 + (s.winCtr - 1).toNat = s.cfg.windowMs.toNat
      omega
  · have hk := State.receive_noTick h
    refine State.clocksAgree_of_not_awaiting (State.receive_leaves_awaiting h) ?_
    rw [hk.tickCtr, hk.cfg]
    exact ht.tickBelow

/-- `WF_TIMING`: the window is positive and shorter than the tick period (30_encoding.md R95). -/
theorem Config.wf_timing {cfg : Config} (h : cfg.wf = true) : 0 < cfg.windowMs ∧ cfg.windowMs < cfg.tickMs := by
  simp only [Config.wf, Bool.and_eq_true] at h
  obtain ⟨⟨⟨-, h⟩, -⟩, -⟩ := h
  simp only [Config.wfTiming, Bool.and_eq_true, decide_eq_true_eq] at h
  obtain ⟨⟨⟨hpos, hlt⟩, -⟩, -⟩ := h
  exact ⟨hpos, hlt⟩

/-- A frame's own effects are on the follow-me registers (43_frames.md R189). -/
theorem FrameEffect.exchangeKept {s u : State} {c : Cmd} (h : FrameEffect s c u) : ExchangeKept s u := by
  cases h <;> exact {}

/-- The tick counter catches up, or restarts with a fresh window or in a send state; no tick falls while a response is
awaited, since the window is shorter than the tick period (R235-R238). -/
theorem State.tick_clocksAgree {s t : State} (hw : s.cfg.wf = true) (hc : s.ClocksAgree 1) (h : s.tick = .next t) :
    t.ClocksAgree 0 := by
  obtain ⟨hpos, hlt⟩ := Config.wf_timing hw
  have hbelow := hc.tickBelow
  have hzero : 0 < s.cfg.tickMs := BitVec.lt_trans hpos hlt
  rcases s.tick_cases with ⟨hne, ht⟩ | ⟨he, hs, ht⟩ | ⟨_, _, -, -, -, ht⟩ | ⟨_, i, -, -, -, hi, ht⟩ <;> rw [ht] at h
  · cases h
    have hctr : (s.tickCtr + 1).toNat = s.tickCtr.toNat + 1 := by bv_omega
    refine ⟨?_, hc.awaitingPositive, fun ha => ?_⟩
    · change s.tickCtr + 1 < s.cfg.tickMs
      bv_omega
    · exact hctr ▸ hc.awaitingSum ha
  · have hsum := hc.awaitingSum hs
    bv_omega
  · cases h
    exact State.clocksAgree_of_not_awaiting nofun hzero
  · obtain ⟨c, p, u, -, -, hu, he⟩ := exec_transmit hi { s with tickCtr := 0 }
    obtain ⟨-, h⟩ := whenAdmitted_next (he.symm.trans h)
    have hk := hu.exchangeKept
    cases h
    refine ⟨?_, fun _ => hpos, fun _ => ?_⟩
    · change u.tickCtr < u.cfg.tickMs
      rw [hk.tickCtr, hk.cfg]
      exact hzero
    · change u.tickCtr.toNat + s.cfg.windowMs.toNat = u.cfg.windowMs.toNat
      rw [hk.tickCtr, hk.cfg]
      exact Nat.zero_add _

/-- The sub-steps of an `MS` up to its tick transmit nothing (R232-R234). -/
theorem State.beforeTick_noTick {s w : State} (h : s.tickTime.window = .next w) : NoTick s w.schedule :=
  NoTick.trans (t := s.tickTime) {} ((State.window_noTick h).trans w.schedule_exchangeKept.toNoTick)

/-- `MS` keeps the clocks in agreement (R231). -/
theorem exec_ms_clocksAgree {s t : State} (harmed : s.windowIffAwaiting) (hs : s.ClocksAgree 0)
    (h : exec .ms s = .next t) : t.ClocksAgree 0 := by
  obtain ⟨hw, w, hwin, htick⟩ := execMs_next h
  have htime : s.tickTime.ClocksAgree 0 := ExchangeKept.clocksAgree {} hs
  have hcounted := State.window_clocksAgree (s := s.tickTime) harmed htime hwin
  exact State.tick_clocksAgree ((State.beforeTick_noTick hwin).cfg ▸ hw) (w.schedule_exchangeKept.clocksAgree hcounted)
    htick

/-- Settles O49: a reset starts with agreeing clocks, the window and then the tick of an `MS` keep them agreeing, and no
other event moves them. -/
theorem stepKeepsTheExchangeTiming : Obligations.StepKeepsTheExchangeTiming := by
  intro s t hinv htiming h
  rw [State.timingWf_iff] at htiming ⊢
  rcases step_cases_exchange h with ⟨hw, rfl⟩ | ⟨-, hms⟩ | hk
  · obtain ⟨hpos, hlt⟩ := Config.wf_timing hw
    exact State.clocksAgree_of_not_awaiting nofun (BitVec.lt_trans hpos hlt)
  · have hadvance : s.advance.ClocksAgree 0 := ExchangeKept.clocksAgree {} htiming
    exact exec_ms_clocksAgree (s := s.advance) hinv.windowIffAwaiting hadvance hms
  · exact hk.clocksAgree htiming

/-! ## What a tick transmits -/

/-- A transmit frame that answers a next state was sent (45_sequencer.md R237). -/
theorem exec_transmit_sent {i : Instr} (hi : Instr.isTransmit i) {s t : State} (hbuf : Memory.wf txLen s.tx = true)
    (h : exec i s = .next t) : ∃ c p u, SentFrame c p s u t := by
  obtain ⟨c, p, u, hp, -, -, he⟩ := exec_transmit hi s
  obtain ⟨-, h⟩ := whenAdmitted_next (he.symm.trans h)
  cases h
  exact ⟨c, p, u, sentFrame_encodeTx c hp hbuf⟩

/-- A sent frame is the one output frame, and its exchange is in flight. -/
theorem SentFrame.inFlight {c : Cmd} {p : List Byte} {s u t : State} (h : SentFrame c p s u t) :
    t.state = .awaiting ∧ t.lastSent = some c ∧ ∃ f, IsTxFrame s.cfg c p f ∧ t.out = s.out ++ [.txWrite f, .txFlush] := by
  obtain ⟨f, hf, -, -, ht⟩ := h
  rw [ht]
  exact ⟨rfl, rfl, f, hf, rfl⟩

/-- A millisecond adds no frame, or its tick falls and sends one (R235-R238, R251). -/
theorem State.tick_adds {s t : State} (hbuf : Memory.wf txLen s.tx = true) (h : s.tick = .next t) :
    AddsNoFrame s t ∨ s.tickCtr + 1 = s.cfg.tickMs ∧ ∃ c p u, SentFrame c p { s with tickCtr := 0 } u t := by
  rcases s.tick_cases with ⟨-, ht⟩ | ⟨-, -, ht⟩ | ⟨_, reason, -, -, -, ht⟩ | ⟨_, i, hctr, -, -, hi, ht⟩ <;> rw [ht] at h
  · cases h; exact .inl (.of_out_eq rfl)
  · cases h; exact .inl (.of_out_eq rfl)
  · cases h; exact .inl ⟨_, rfl, by cases reason <;> rfl⟩
  · exact .inr ⟨hctr, exec_transmit_sent hi (s := { s with tickCtr := 0 }) hbuf h⟩

/-- What `MS` adds to the outputs: no frame, or one that its tick sends after outputs without a frame (R231, R236). -/
theorem exec_ms_adds {s t : State} (hbuf : Memory.wf txLen s.tx = true) (h : exec .ms s = .next t) :
    AddsNoFrame s t ∨ s.tickCtr + 1 = s.cfg.tickMs ∧
      ∃ c p u v, AddsNoFrame s v ∧ v.cfg = s.cfg ∧ SentFrame c p v u t := by
  obtain ⟨-, w, hwin, htick⟩ := execMs_next h
  have hk := State.beforeTick_noTick hwin
  rcases State.tick_adds (hk.tx ▸ hbuf) htick with hout | ⟨hctr, c, p, u, hsent⟩
  · exact .inl (hk.out.trans hout)
  · rw [hk.tickCtr, hk.cfg] at hctr
    exact .inr ⟨hctr, c, p, u, _, hk.out, hk.cfg, hsent⟩

/-- Settles O56: a step adds no frame, or it is an `MS` whose tick sends one. -/
theorem onlyTicksTransmitAndFramesAreValid : Obligations.OnlyTicksTransmitAndFramesAreValid := by
  intro s t hbuf h
  rcases step_cases_exchange h with ⟨-, rfl⟩ | ⟨hd, hms⟩ | hk
  · exact ⟨⟨[], (List.append_nil _).symm⟩, fun hne => absurd rfl hne⟩
  · rcases exec_ms_adds (s := s.advance) hbuf.1 hms with ha | ⟨hctr, c, p, u, v, ⟨added, hv, hfv⟩, hcfg, hsent⟩
    · exact ⟨ha.grows, fun hne => absurd ha.framesOf_eq hne⟩
    · obtain ⟨hstate, hlast, f, hf, hout⟩ := hsent.inFlight
      rw [hv, List.append_assoc] at hout
      refine ⟨⟨_, hout⟩, fun _ => ⟨hd, hctr, hstate, f, c, p, ?_, hcfg ▸ hf, hlast⟩⟩
      rw [hout, framesOf_append, framesOf_append, hfv]
      rfl
  · exact ⟨hk.out.grows, fun hne => absurd hk.out.framesOf_eq hne⟩

/-! ## A configuration that fails a check -/

/-- Settles O39: every instruction but `RESET` asks for an admitted configuration first, and `RESET` for an admitted
supplied one. -/
theorem unadmittedConfigurationIsRefused : Obligations.UnadmittedConfigurationIsRefused := by
  refine ⟨fun s i hw hi => ?_, fun s hw => ?_⟩
  · cases i with
    | reset => exact absurd rfl hi
    | query | queryExt | set | fmInit | fmUpdate | fmStatic | rQuery | rQueryExt | rSet | rFollowMe | rUnknown | ms
    | control | staticPressure | remoteTemp | rx => exact whenAdmitted_of_not_wf hw _
  · change execReset s = _
    rw [execReset, hw]
    rfl

end Sys2Proof.Machine
end

section
/-! The checksum laws and the receive decoder's error detection (41_codec.md R120-R126): a checksum byte is right
exactly when all bytes sum to `0xFF`, so one wrong byte is always found, and the first failed check names the error. -/

namespace Sys2Proof

open Sys2Proof.Machine

/-! ## The checksum as a sum -/

/-- The checksum of a frame is the byte that brings the sum of the other bytes to `0xFF` (41_codec.md R121, R122). -/
theorem eq_checksum_iff (f : List Byte) (k : Nat) (b : Byte) :
    b = checksum f k ↔ (sumSkip f k + b.toNat) % 256 = 0xFF := by
  have hb := b.isLt
  rw [checksum, sum8, ← BitVec.toNat_inj, BitVec.toNat_sub, BitVec.toNat_ofNat]
  change b.toNat = (2 ^ 8 - sumSkip f k % 2 ^ 8 + 255) % 2 ^ 8 ↔ _
  omega

/-- A checksum byte is right exactly when all bytes of the frame sum to `0xFF` (R122). -/
theorem getD_eq_checksum_iff {f : List Byte} {k : Nat} (hk : k < f.length) :
    f.getD k 0 = checksum f k ↔ (f.map BitVec.toNat).sum % 256 = 0xFF := by
  rw [eq_checksum_iff, sum_eq_sumSkip_add f k hk]

/-- Subtracting from `0xFF` is complementing (R122). -/
theorem checksum_eq_not (f : List Byte) (k : Nat) : checksum f k = ~~~(sum8 f k) &&& 0xFF := by
  have hall : (0xFF : Byte) = BitVec.allOnes 8 := rfl
  rw [checksum, hall, BitVec.and_allOnes, BitVec.allOnes_sub_eq_not]

/-- Settles O3: both halves of the second law are the checksum as a sum. -/
theorem checksumLaws : Obligations.ChecksumLaws := by
  refine ⟨checksum_eq_not, fun f k hk => ⟨?_, getD_eq_checksum_iff hk⟩, fun n => by omega⟩
  rw [eq_checksum_iff, sum8, BitVec.toNat_ofNat, Nat.mod_add_mod]

/-! ## The first failed check -/

/-- A wrong first byte is what the checks report first (R125). -/
theorem checkFrame_badPreamble {f : List Byte} (cs mk : Nat) (h : f.getD 0 0 ≠ preamble) :
    checkFrame f cs mk = .error (.badPreamble (f.getD 0 0)) := if_pos h

/-- A wrong marker is reported after a right preamble (R125). -/
theorem checkFrame_badMarker {f : List Byte} (cs : Nat) {mk : Nat} (hpre : f.getD 0 0 = preamble)
    (h : f.getD mk 0 ≠ marker) : checkFrame f cs mk = .error (.badMarker (f.getD mk 0)) := by
  rw [checkFrame, if_neg (not_not.mpr hpre), if_pos h]

/-- A wrong checksum is reported after a right preamble and marker (R125). -/
theorem checkFrame_badChecksum {f : List Byte} {cs mk : Nat} (hpre : f.getD 0 0 = preamble)
    (hmk : f.getD mk 0 = marker) (h : f.getD cs 0 ≠ checksum f cs) :
    checkFrame f cs mk = .error (.badChecksum (checksum f cs) (f.getD cs 0)) := by
  rw [checkFrame, if_neg (not_not.mpr hpre), if_neg (not_not.mpr hmk), if_pos h]

/-- A frame of full length is rejected with the check it fails (R125). -/
theorem decodeRx_of_checkFrame_error (cfg : Config) {f : List Byte} {e : DecodeError} (hl : f.length = 32)
    (h : checkFrame f 30 31 = .error e) : decodeRx cfg f = .error e := by
  rw [decodeRx, if_neg (not_not.mpr hl), h]

/-- A frame of full length that passes its checks is some instruction, whatever the configuration (R125). -/
theorem decodeRx_of_checkFrame_ok (cfg : Config) {f : List Byte} (hl : f.length = 32)
    (h : checkFrame f 30 31 = .ok ()) : ∃ i, decodeRx cfg f = .ok i := by
  rw [decodeRx, if_neg (not_not.mpr hl), h]
  exact ⟨_, rfl⟩

/-! ## One wrong byte -/

/-- A flipped bit changes its byte. -/
theorem xor_twoPow_ne (b : Byte) {j : Nat} (hj : j < 8) : b ^^^ BitVec.twoPow 8 j ≠ b := by
  intro h
  have hbit := congrArg (·.getLsbD j) h
  simp [hj] at hbit

/-- The byte that was put in, and every other byte as it was. -/
theorem getD_set (f : List Byte) (k a : Nat) (v : Byte) (hk : k < f.length) :
    (f.set k v).getD a 0 = if k = a then v else f.getD a 0 := by
  by_cases h : k = a
  · subst h
    simp [hk]
  · simp [List.getD_eq_getElem?_getD, h]

/-- One wrong byte makes the sum of all bytes wrong (R126). -/
theorem sum_set_mod_ne {f : List Byte} {k : Nat} {v : Byte} (hk : k < f.length) (hv : v ≠ f.getD k 0) :
    ((f.set k v).map BitVec.toNat).sum % 256 ≠ (f.map BitVec.toNat).sum % 256 := by
  have hne : v.toNat ≠ (f.getD k 0).toNat := fun h => hv (BitVec.eq_of_toNat_eq h)
  have hlt := v.isLt
  have hlt' := (f.getD k 0).isLt
  rw [sum_eq_sumSkip_add _ k (by simpa using hk), sum_eq_sumSkip_add f k hk, sumSkip_set, getD_set f k k v hk,
    if_pos rfl]
  omega

/-- One wrong byte of a valid receive frame fails the check it belongs to: its own at the preamble and the marker, the
checksum's anywhere else, the checksum byte included (R126). -/
theorem checkFrame_set {f : List Byte} {k : Nat} {v : Byte} (hl : f.length = 32) (hok : checkFrame f 30 31 = .ok ())
    (hk : k < 32) (hv : v ≠ f.getD k 0) :
    ∃ e, checkFrame (f.set k v) 30 31 = .error e ∧ (k = 0 → e = .badPreamble v) ∧ (k = 31 → e = .badMarker v) ∧
      (k ≠ 0 → k ≠ 31 → ∃ a b, e = .badChecksum a b) := by
  obtain ⟨hpre, hmk, hcs⟩ := (checkFrame_ok_iff f 30 31).mp hok
  have hbyte := fun a => getD_set f k a v (by omega)
  by_cases h0 : k = 0
  · have hv0 := (hbyte 0).trans (if_pos h0)
    refine ⟨_, checkFrame_badPreamble 30 31 ?_, fun _ => by rw [hv0], by omega, fun h => absurd h0 h⟩
    rw [hv0, ← hpre, ← h0]
    exact hv
  · have hpre' := ((hbyte 0).trans (if_neg h0)).trans hpre
    by_cases h31 : k = 31
    · have hv31 := (hbyte 31).trans (if_pos h31)
      refine ⟨_, checkFrame_badMarker 30 hpre' ?_, fun h => absurd h h0, fun _ => by rw [hv31],
        fun _ h => absurd h31 h⟩
      rw [hv31, ← hmk, ← h31]
      exact hv
    · have hmk' := ((hbyte 31).trans (if_neg h31)).trans hmk
      refine ⟨_, checkFrame_badChecksum hpre' hmk' ?_, fun h => absurd h h0, fun h => absurd h h31,
        fun _ _ => ⟨_, _, rfl⟩⟩
      rw [Ne, getD_eq_checksum_iff (by simp [hl]), ← sum_mod_of_checksum (by omega) hcs]
      exact sum_set_mod_ne (by omega) hv

/-- A flipped bit of a receive frame that decodes is found, and the check of its byte names it (R126). -/
theorem decodeRx_flipped {cfg : Config} {f : List Byte} {i : Instr} {k j : Nat} (h : decodeRx cfg f = .ok i)
    (hk : k < 32) (hj : j < 8) :
    ∃ e, decodeRx cfg (f.set k (f.getD k 0 ^^^ BitVec.twoPow 8 j)) = .error e ∧
      (k = 0 → e = .badPreamble (f.getD 0 0 ^^^ BitVec.twoPow 8 j)) ∧
      (k = 31 → e = .badMarker (f.getD 31 0 ^^^ BitVec.twoPow 8 j)) ∧
      (k ≠ 0 → k ≠ 31 → ∃ a b, e = .badChecksum a b) := by
  obtain ⟨hl, hok, -⟩ := decodeRx_ok h
  obtain ⟨e, he, hfirst, hlast, hrest⟩ := checkFrame_set hl hok hk (xor_twoPow_ne (f.getD k 0) hj)
  refine ⟨e, decodeRx_of_checkFrame_error cfg (by simpa using hl) he, fun h0 => ?_, fun h31 => ?_, hrest⟩
  · rw [hfirst h0, h0]
  · rw [hlast h31, h31]

/-! ## Two wrong bytes -/

/-- The receive frame with code `0x12` and nothing but zeros after it. -/
def zeroFrame : List Byte := encodeRx 0x12 (List.replicate 4 0) (List.replicate 24 0)

/-- In it a byte raised by one and the next lowered by one keep the sum (R126). -/
theorem zeroFrame_cancels :
    checkFrame zeroFrame 30 31 = .ok () ∧ checkFrame ((zeroFrame.set 10 0x01).set 11 0xFF) 30 31 = .ok () := by
  decide

/-- Settles O4: what `encode_rx` builds decodes, one wrong byte changes the sum of all, and two can leave it. -/
theorem receiveFramesRoundTripAndDetectOneBitErrors : Obligations.ReceiveFramesRoundTripAndDetectOneBitErrors := by
  refine ⟨fun cfg code hdr q hh hq => ?_, fun cfg f i k j h hk hj => decodeRx_flipped h hk hj,
    zeroFrame, 0x01, 0xFF, fun cfg => ?_⟩
  · exact decodeRx_encodeRx cfg code (by simp [rxShape, hh, hq])
  · obtain ⟨hok, hok'⟩ := zeroFrame_cancels
    exact ⟨decodeRx_of_checkFrame_ok cfg rfl hok, by decide, by decide, decodeRx_of_checkFrame_ok cfg rfl hok'⟩

end Sys2Proof
end

section
/-! The value transforms of temperatures and timers (41_codec.md R127-R134): rounding half away from zero, the byte of a
temperature by its rounded value, and the bits of a timer byte by their minutes. -/

namespace Sys2Proof.Machine

/-! ## Rounding -/

/-- An exact number rounds to itself. -/
@[simp] theorem roundHalfAway_natCast (n : Nat) : roundHalfAway n = n := by
  rw [roundHalfAway, if_neg (not_lt.mpr n.cast_nonneg), Int.floor_eq_iff]
  norm_num

/-- A rounded value is at most a half away (R129). -/
theorem abs_roundHalfAway_sub_le (x : Rat) : |(roundHalfAway x : Rat) - x| ≤ 1 / 2 := by
  rw [abs_le, roundHalfAway]
  split
  · have hle := Int.floor_le (-x + 1 / 2)
    have hlt := Int.lt_floor_add_one (-x + 1 / 2)
    push_cast
    constructor <;> linarith
  · have hle := Int.floor_le (x + 1 / 2)
    have hlt := Int.lt_floor_add_one (x + 1 / 2)
    constructor <;> linarith

/-- What rounds to no negative number: the half at `-1/2` goes down (R129). -/
theorem roundHalfAway_nonneg_iff (x : Rat) : 0 ≤ roundHalfAway x ↔ -1 / 2 < x := by
  unfold roundHalfAway
  split
  · rw [Left.nonneg_neg_iff, ← Int.lt_add_one_iff, Int.floor_lt]
    push_cast
    constructor <;> intro h <;> linarith
  · have hfloor : 0 ≤ ⌊x + 1 / 2⌋ := Int.floor_nonneg.mpr (by linarith)
    exact iff_of_true hfloor (by linarith)

/-- What rounds to at most 255: the half at `255.5` goes up (R129). -/
theorem roundHalfAway_le_iff (x : Rat) : roundHalfAway x ≤ 255 ↔ x < 511 / 2 := by
  unfold roundHalfAway
  split
  · have hfloor : 0 ≤ ⌊-x + 1 / 2⌋ := Int.floor_nonneg.mpr (by linarith)
    exact iff_of_true (by omega) (by linarith)
  · rw [← Int.lt_add_one_iff, Int.floor_lt]
    push_cast
    constructor <;> intro h <;> linarith

/-! ## Temperatures -/

/-- The byte of a temperature is its rounded half degrees above -20 (R129). -/
theorem fromCelsius_eq_some_iff (c : Rat) (r : Byte) :
    fromCelsius c = some r ↔ roundHalfAway (2 * c + 40) = r.toNat := by
  have hr := r.isLt
  simp only [fromCelsius]
  split
  · rw [Option.some_inj, ← BitVec.toNat_inj, BitVec.toNat_ofNat]
    omega
  · exact iff_of_false nofun (by omega)

/-- A temperature has a byte exactly when its rounded value is one (R129). -/
theorem fromCelsius_isSome_iff (c : Rat) :
    (∃ r, fromCelsius c = some r) ↔ 0 ≤ roundHalfAway (2 * c + 40) ∧ roundHalfAway (2 * c + 40) ≤ 255 := by
  simp only [fromCelsius]
  split
  · next h => exact iff_of_true ⟨_, rfl⟩ h
  · next h => exact iff_of_false nofun h

/-- A byte counts half degrees above -20 (R128). -/
theorem toCelsius_eq (b : Byte) : toCelsius b = ((b.toNat : Rat) - 40) / 2 := by
  rw [toCelsius]
  push_cast
  rfl

/-- The byte of a temperature stands for it within a quarter degree (R130). -/
theorem abs_toCelsius_sub_le {c : Rat} {r : Byte} (h : fromCelsius c = some r) : |toCelsius r - c| ≤ 1 / 4 := by
  have hround : (roundHalfAway (2 * c + 40) : Rat) = r.toNat := by
    rw [(fromCelsius_eq_some_iff c r).mp h]
    exact Int.cast_natCast _
  have hhalf := abs_roundHalfAway_sub_le (2 * c + 40)
  rw [hround, abs_le] at hhalf
  obtain ⟨hlo, hhi⟩ := hhalf
  rw [toCelsius_eq, abs_le]
  constructor <;> linarith

/-- Settles O7: the two ends of the range are those of rounding into a byte. -/
theorem temperatureEncodesExactlyInRange : Obligations.TemperatureEncodesExactlyInRange := fun c => by
  rw [fromCelsius_isSome_iff, roundHalfAway_nonneg_iff, roundHalfAway_le_iff]

/-- Settles O6: a byte's own temperature needs no rounding, and rounding moves half degrees by at most a half. -/
theorem temperatureTransformIsHalfDegreeExact : Obligations.TemperatureTransformIsHalfDegreeExact := by
  refine ⟨fun b => ?_, fun c r h => abs_toCelsius_sub_le h, fun c hlo hhi => ?_⟩
  · have hexact : 2 * toCelsius b + 40 = b.toNat := by
      rw [toCelsius_eq]
      ring
    rw [fromCelsius_eq_some_iff, hexact, roundHalfAway_natCast]
  · obtain ⟨r, hr⟩ := (temperatureEncodesExactlyInRange c).mpr ⟨by linarith, by linarith⟩
    exact ⟨r, hr, (abs_toCelsius_sub_le hr).trans (by norm_num)⟩

/-! ## Timers -/

/-- The recursion over the buckets is the sum over their places (R132). -/
theorem timerSum_eq_sum (b : Byte) (es : List (Option Nat)) : ∀ k : Nat,
    timerSum b k es =
      ((List.range es.length).map fun i => if b.getLsbD (k + i) then (es.getD i none).getD 0 else 0).sum := by
  induction es with
  | nil => exact fun _ => rfl
  | cons e es ih =>
    intro k
    rw [timerSum, ih, List.length_cons, List.range_succ_eq_map]
    simp [Function.comp_def, Nat.add_assoc, Nat.add_comm 1]

/-- Settles O12: there are eight buckets, and the first is bit 0's. -/
theorem timerDecodeSumsItsBuckets : Obligations.TimerDecodeSumsItsBuckets := by
  intro cfg b
  have hlen : cfg.timerBuckets.toList.length = 8 := Vector.length_toList
  rw [timerDecode, timerSum_eq_sum, hlen]
  simp only [Nat.zero_add]

/-- The lowest `j` buckets of `REFCFG` in the order the encoder tries them: bit `k` stands for `15 * 2 ^ k` minutes. -/
def doublingBuckets : Nat → List (Nat × Nat)
  | 0 => []
  | j + 1 => (15 * 2 ^ j, j) :: doublingBuckets j

/-- The encoder's order under `REFCFG` (30_encoding.md R105; 41_codec.md R133). -/
theorem bucketOrder_ref : bucketOrder 0 Config.ref.timerBuckets.toList = doublingBuckets 7 := by decide

/-- A power of two above a number joins it as one more bit. -/
theorem twoPow_or_ofNat {j m : Nat} (h : m < 2 ^ j) :
    BitVec.twoPow 8 j ||| BitVec.ofNat 8 m = BitVec.ofNat 8 (2 ^ j + m) := by
  apply BitVec.eq_of_toNat_eq
  have hor := Nat.two_pow_add_eq_or_of_lt h 1
  rw [Nat.mul_one] at hor
  rw [BitVec.toNat_or, BitVec.toNat_twoPow, BitVec.toNat_ofNat, BitVec.toNat_ofNat, hor, Nat.or_mod_two_pow]

/-- The greedy choice over doubling buckets is the binary expansion (R133). -/
theorem greedyBits_doublingBuckets : ∀ {j m : Nat}, m < 2 ^ j →
    greedyBits (doublingBuckets j) (15 * m) = BitVec.ofNat 8 m := by
  intro j
  induction j with
  | zero =>
    intro m h
    rw [Nat.lt_one_iff.mp h]
    rfl
  | succ j ih =>
    intro m h
    rw [doublingBuckets, greedyBits]
    by_cases hle : 2 ^ j ≤ m
    · obtain ⟨r, rfl⟩ := Nat.exists_eq_add_of_le hle
      have hr : r < 2 ^ j := by omega
      rw [if_pos (by omega), ← Nat.mul_sub, Nat.add_sub_cancel_left, ih hr, twoPow_or_ofNat hr]
    · rw [if_neg (by omega), ih (by omega)]

/-- A set bit's minutes, as a product with the bit. -/
theorem ite_testBit (m k c : Nat) : (if m.testBit k then c else 0) = c * (m / 2 ^ k % 2) := by
  rw [Nat.testBit_eq_decide_div_mod_eq]
  rcases Nat.mod_two_eq_zero_or_one (m / 2 ^ k) with h | h <;> simp [h]

/-- Under `REFCFG` a timer byte below 128 counts quarters of an hour (R105, R132). -/
theorem timerDecode_ref_ofNat {m : Nat} (h : m < 128) : timerDecode Config.ref (BitVec.ofNat 8 m) = 15 * m := by
  simp only [timerDecode, Config.ref, timerSum, BitVec.getLsbD_ofNat, Vector.toList_mk, Option.getD_some,
    Option.getD_none, ite_self, Nat.reduceLT, decide_true, Bool.true_and, Nat.reduceAdd, ite_testBit]
  omega

/-- Settles O8: the encoder writes the quarters of an hour in binary, and the decoder reads them. -/
theorem timerBucketsRoundTrip : Obligations.TimerBucketsRoundTrip := by
  intro n hmod hn
  obtain ⟨m, rfl⟩ := Nat.dvd_of_mod_eq_zero hmod
  have hm : m < 2 ^ 7 := by omega
  rw [timerEncode, bucketOrder_ref, greedyBits_doublingBuckets hm, timerDecode_ref_ofNat hm]

end Sys2Proof.Machine
end

section
/-! A failed exchange (45_sequencer.md R239-R244): the next state that R244 names, and a full capture that fails a
check. -/

namespace Sys2Proof.Machine

/-- A frame that fails a check is logged under that check (60_exceptions.md R283-R285). -/
theorem checkFrame_rejectRecord {f : List Byte} {r : LogRecord}
    (h : (f.getD 0 0 ≠ 0xAA ∧ r = .preamble (f.getD 0 0)) ∨
      (f.getD 0 0 = 0xAA ∧ f.getD 31 0 ≠ 0x55 ∧ r = .marker (f.getD 31 0)) ∨
      (f.getD 0 0 = 0xAA ∧ f.getD 31 0 = 0x55 ∧ f.getD 30 0 ≠ checksum f 30 ∧
        r = .checksum (checksum f 30) (f.getD 30 0))) :
    ∃ e, checkFrame f 30 31 = .error e ∧ rejectRecord e = some r := by
  rcases h with ⟨hpre, rfl⟩ | ⟨hpre, hmk, rfl⟩ | ⟨hpre, hmk, hcs, rfl⟩
  · exact ⟨_, checkFrame_badPreamble 30 31 hpre, rfl⟩
  · exact ⟨_, checkFrame_badMarker 30 hpre hmk, rfl⟩
  · exact ⟨_, checkFrame_badChecksum hpre hmk hcs, rfl⟩

/-- The pending command, else the cycle, is the state after a success (45_sequencer.md R242). -/
theorem SucceedsTo.afterSuccess {s : State} {p : SendState} (h : SucceedsTo s p) : s.afterSuccess = some p := by
  rcases h with hp | ⟨hp, c, hc, rfl⟩
  · rw [State.afterSuccess, hp]; rfl
  · rw [State.afterSuccess, hp, hc]; rfl

/-- The state after a failure by the configuration's recovery (R244). -/
theorem FailsTo.afterFailure {s : State} {p : SendState} (h : FailsTo s p) : s.afterFailure = some p := by
  rcases h with ⟨hrec, rfl⟩ | ⟨hrec, hp⟩
  · rw [State.afterFailure, hrec]
  · rw [State.afterFailure, hrec]; exact hp.afterSuccess

/-- A failed exchange enters the state that R244 names. -/
theorem State.failure_of_failsTo {s : State} {p : SendState} (h : FailsTo s p) :
    s.failure = .next { s with state := .send p, pending := none } := by
  rw [State.failure_eq, h.afterFailure]

/-- The receive step over a full capture that fails a check (R239, R241, R244). -/
theorem State.receive_fails {s : State} {p : SendState} {e : DecodeError} {r : LogRecord}
    (hw : Memory.wf rxLen s.rx = true) (hl : s.rxFifo.length = rxLen) (hp : FailsTo s p)
    (he : checkFrame s.rxFifo 30 31 = .error e) (hr : rejectRecord e = some r) :
    ∃ t, s.receive = .next t ∧ ExchangeFailed p r s t := by
  refine ⟨{ s.drain.raise r with state := .send p, pending := none }, ?_, ?_, fun a => ?_⟩
  · rw [State.receive, if_neg (not_not.mpr hl), State.load_drain hw hl, decodeRx_of_checkFrame_error s.cfg hl he]
    simp only [State.raiseReject, hr]
    exact State.failure_of_failsTo (s := s.drain.raise r) hp
  · rw [if_pos (by rw [hl]; decide), hl, State.drain_of_full hl]
    rfl
  · change Memory.read s.drain.rx a = _
    rw [State.read_drain_rx hw hl, hl]
    simp only [show rxLen = 32 from rfl, and_self]

/-- Settles O28: the first failed check is the record, and the close of the window is the receive step on the state
with the window disarmed. -/
theorem invalidFrameFailsTheExchange : Obligations.InvalidFrameFailsTheExchange := by
  intro s p r hbuf hl hp hfails
  obtain ⟨-, hw⟩ := hbuf
  obtain ⟨e, he, hr⟩ := checkFrame_rejectRecord hfails
  refine ⟨State.receive_fails hw hl hp he hr, fun harmed hctr => ?_⟩
  rw [State.window_closes harmed hctr]
  exact State.receive_fails (s := { s with winArmed := false, winCtr := 0 }) hw hl hp he hr

end Sys2Proof.Machine
end

section
/-! The mapper (42_mapper.md): the correction of a raw mode byte, the flags byte by its masks, the action table, and
target temperatures, each by the cases of its rule. -/

namespace Sys2Proof.Machine

/-! ## Masked bits -/

theorem anyBit_iff (b mask : Byte) : anyBit b mask = true ↔ b &&& mask ≠ 0 := bne_iff_ne

theorem not_anyBit_iff (b mask : Byte) : ¬ anyBit b mask = true ↔ b &&& mask = 0 := by rw [anyBit_iff, not_not]

/-! ## Modes -/

/-- OFF with the auxiliary bit set is AUTO (42_mapper.md R151). -/
theorem correctedMode_of_off_of_aux {cfg : Config} {raw : Byte} (hoff : decodeMode cfg raw = some .off)
    (haux : raw &&& cfg.autoAux ≠ 0) : correctedMode cfg raw = some .auto :=
  if_pos ⟨hoff, (anyBit_iff _ _).mpr haux⟩

/-- Any other byte keeps the mode it decodes to (R151). -/
theorem correctedMode_eq_decodeMode {cfg : Config} {raw : Byte}
    (h : decodeMode cfg raw ≠ some .off ∨ raw &&& cfg.autoAux = 0) : correctedMode cfg raw = decodeMode cfg raw :=
  if_neg fun ⟨hoff, haux⟩ => h.elim (absurd hoff) (absurd haux <| (not_anyBit_iff _ _).mpr ·)

/-- A mode's own code reads as that mode where the correction leaves it (R164). -/
theorem correctedMode_encodeMode {cfg : Config} (h : cfg.wfModeTable = true) {m : Mode}
    (hm : m ≠ .off ∨ encodeMode cfg m &&& cfg.autoAux = 0) : correctedMode cfg (encodeMode cfg m) = some m := by
  have hdecode := decodeMode_encodeMode h m
  rw [correctedMode_eq_decodeMode (hm.imp_left fun hne => by simpa [hdecode] using hne), hdecode]

/-! ## The flags byte -/

/-- Auxiliary heat gives BOOST and wins over eco, which gives SLEEP (R156). -/
theorem decodePreset_eq (cfg : Config) (fl : Byte) :
    decodePreset cfg fl =
      if fl &&& cfg.auxHeatMask ≠ 0 then .boost else if fl &&& cfg.ecoMask ≠ 0 then .sleep else .none := by
  simp only [decodePreset, anyBit_iff]

/-- The encoded byte joins the swing mask and the preset's mask, bit by bit (R157). -/
theorem getLsbD_encodeFlags (cfg : Config) (sw : Bool) (p : Preset) (k : Nat) :
    (encodeFlags cfg sw p).getLsbD k = true ↔
      (sw = true ∧ cfg.swingMask.getLsbD k = true) ∨ (p = .boost ∧ cfg.auxHeatMask.getLsbD k = true) ∨
        (p = .sleep ∧ cfg.ecoMask.getLsbD k = true) := by
  unfold encodeFlags
  rw [BitVec.getLsbD_or, Bool.or_eq_true]
  refine or_congr ?_ ?_
  · cases sw <;> simp
  · cases p <;> simp

/-! ## Target temperatures -/

/-- Under `CELSIUS` a target byte counts half degrees (R161). -/
theorem targetFromRaw_of_celsius {cfg : Config} (hc : cfg.tempUnit = .celsius) (b : Byte) :
    targetFromRaw cfg b = toCelsius b := by rw [targetFromRaw, hc]

/-- Under `CELSIUS` a target read from a byte is written as that byte (R161, R162; 41_codec.md R130). -/
theorem targetToRaw_targetFromRaw {cfg : Config} (hc : cfg.tempUnit = .celsius) (b : Byte) :
    targetToRaw cfg (some (targetFromRaw cfg b)) = some b := by
  obtain ⟨hexact, -⟩ := temperatureTransformIsHalfDegreeExact
  rw [targetFromRaw_of_celsius hc, targetToRaw, hc]
  exact hexact b

/-- Settles O9: the tables and the masks of an admitted configuration undo their encodings. -/
theorem mapperLaws : Obligations.MapperLaws := by
  intro cfg hcfg
  obtain ⟨-, -, -, hmode, hfan, hflags⟩ := Config.wf_encodingChecks hcfg
  exact ⟨fun m hm => correctedMode_encodeMode hmode (.inl hm), fun hoff => correctedMode_encodeMode hmode (.inr hoff),
    by decide, decodeFan_encodeFan hfan, decodeFlags_encodeFlags hflags,
    fun hc b => ⟨(b.toNat : Int) - 40, targetFromRaw_of_celsius hc b⟩⟩

/-- Settles O10: the tables are the configuration's by definition; the rest goes by the cases of R151 and R156 and by
the bits of R157. -/
theorem mapperReadsItsTablesAndBits : Obligations.MapperReadsItsTablesAndBits := by
  intro cfg
  refine ⟨fun _ => rfl, fun raw => ⟨correctedMode_of_off_of_aux, correctedMode_eq_decodeMode⟩, fun _ => rfl,
    ⟨rfl, rfl, rfl, rfl, rfl, rfl⟩, ⟨rfl, rfl, rfl, rfl, rfl⟩, fun fl => anyBit_iff fl cfg.swingMask, fun fl => ?_,
    fun sw p k _ => getLsbD_encodeFlags cfg sw p k⟩
  refine ⟨fun ha => ?_, fun ha he => ?_, fun ha he => ?_⟩ <;> rw [decodePreset_eq]
  · rw [if_pos ha]
  · rw [if_neg (not_not.mpr ha), if_pos he]
  · rw [if_neg (not_not.mpr ha), if_neg (not_not.mpr he)]

/-! ## The action -/

/-- In HEAT the heat flag decides (R158, R159). -/
theorem computeAction_heat (cfg : Config) (q : List Byte) :
    computeAction cfg (some .heat) q =
      some (if payloadByte q cfg.heatFlagOffset &&& cfg.heatFlagMask ≠ 0 then .heating else .idle) := by
  simp only [computeAction, heatFlag, anyBit_iff]

/-- In AUTO the operation-mode submasks decide, cooling before heating before fan (R159). -/
theorem computeAction_auto (cfg : Config) (q : List Byte) :
    computeAction cfg (some .auto) q =
      some (if payloadByte q cfg.rxq.mode &&& cfg.autoCool ≠ 0 then .cooling
        else if payloadByte q cfg.rxq.mode &&& cfg.autoHeat ≠ 0 then .heating
        else if payloadByte q cfg.rxq.mode &&& cfg.autoFan ≠ 0 then .fan else .idle) := by
  simp only [computeAction, autoAction, anyBit_iff]

/-- A routed response to a command other than `SET` is interpreted, and then the exchange succeeds (45_sequencer.md
R241, R242). -/
theorem State.route_interprets {s u : State} {p : SendState} (hw : s.cfg.wf = true) (hset : s.lastSent ≠ some .set)
    (hp : u.afterSuccess = some p) : s.route u = .next { u with state := .send p, pending := none } := by
  rw [State.route, whenAdmitted_of_wf hw, if_neg hset, State.success_eq, hp]

/-- A query response that is interpreted writes its snapshot (44_interpreter.md R201). -/
theorem exec_rQuery_interprets {s : State} {p : SendState} (hw : s.cfg.wf = true) (hset : s.lastSent ≠ some .set)
    (hp : SucceedsTo s p) (hdr q : List Byte) :
    ∃ t, exec (.rQuery hdr q) s = .next t ∧ t.snap = querySnapshot s q := by
  have hafter : (s.applyQuery q).afterSuccess = some p := by
    rw [State.applyQuery_eq]
    exact hp.afterSuccess
  exact ⟨_, State.route_interprets hw hset hafter, by rw [State.applyQuery_eq]⟩

/-- Settles O30: the table by its cases, and the action of the snapshot that an interpreted query response writes. -/
theorem actionFollowsTheEarlierMode : Obligations.ActionFollowsTheEarlierMode := by
  refine ⟨fun cfg q => ⟨computeAction_heat cfg q, fun hcool => ?_, fun hcool hheat => ?_, fun hcool hheat => ?_,
    rfl, rfl, rfl, rfl, rfl⟩, fun s hdr q p hw hset hp => ?_⟩
  · rw [computeAction_auto, if_pos hcool]
  · rw [computeAction_auto, if_neg (not_not.mpr hcool), if_pos hheat]
  · rw [computeAction_auto, if_neg (not_not.mpr hcool), if_neg (not_not.mpr hheat)]
  · obtain ⟨t, ht, hsnap⟩ := exec_rQuery_interprets hw hset hp hdr q
    refine ⟨t, ht, fun a ha => ?_, fun hmode => ?_⟩
    · simp only [hsnap, querySnapshot, ha, Option.orElse_some]
    · simp only [hsnap, querySnapshot, hmode, computeAction, Option.orElse_none]

end Sys2Proof.Machine
end

section
/-! Encodable targets (60_exceptions.md R290): every event keeps the target held or writes one that can be encoded, and
the set builder skips for its target only where it cannot be. -/

namespace Sys2Proof.Machine

/-- The target held in `t` is the one of `s`, or one that the configuration of `s` can encode. -/
def TargetKeptOrEncodable (s t : State) : Prop :=
  t.snap.target = s.snap.target ∨ targetToRaw s.cfg t.snap.target ≠ none

/-- Such a target stays encodable under the same configuration. -/
theorem State.TargetEncodable.of_keptOrEncodable {s t : State} (hs : s.TargetEncodable) (hcfg : t.cfg = s.cfg)
    (h : TargetKeptOrEncodable s t) : t.TargetEncodable := by
  intro hne
  rw [hcfg]
  rcases h with hkept | hraw
  · rw [hkept] at hne ⊢
    exact hs hne
  · exact hraw

/-- Under `CELSIUS` every byte on the wire is an encodable target (42_mapper.md R161, R162). -/
theorem Interpreted.targetKeptOrEncodable {s t : State} {i : Instr} (hc : s.cfg.tempUnit = .celsius)
    (h : Interpreted s t i) : TargetKeptOrEncodable s t := by
  have hbyte : ∀ b, targetToRaw s.cfg (some (targetFromRaw s.cfg b)) ≠ none := fun b => by
    simp [targetToRaw_targetFromRaw hc b]
  cases h with
  | query hdr q hsnap =>
    simp only [TargetKeptOrEncodable, hsnap, querySnapshot]
    split
    · exact .inl rfl
    · exact .inr (hbyte _)
  | queryExt hdr q hsnap =>
    simp only [TargetKeptOrEncodable, hsnap, extTarget]
    split
    · exact .inr (hbyte _)
    · exact .inl rfl

/-- An accepted control request merges its fields into the snapshot (45_sequencer.md R245). -/
theorem State.acceptControl_snap (s : State) (req : ControlReq) : (s.acceptControl req).snap = s.snap.merge req := by
  rw [State.acceptControl, State.request_frame]

/-- `CONTROL` rejects a target that cannot be encoded (R245). -/
theorem exec_control_targetKeptOrEncodable {req : ControlReq} {s t : State}
    (h : exec (.control req) s = .next t) : TargetKeptOrEncodable s t := by
  obtain ⟨-, h⟩ := whenAdmitted_next h
  split at h
  · next c hreq =>
    split at h
    · cases h; exact .inl rfl
    · next hraw =>
      cases h
      refine .inr ?_
      simpa only [State.acceptControl_snap, Snapshot.merge, hreq, Option.orElse_some] using hraw
  · next hreq =>
    cases h
    refine .inl ?_
    simp only [State.acceptControl_snap, Snapshot.merge, hreq, Option.orElse_none]

/-- The set builder skips for its target only where it holds one that cannot be encoded (43_frames.md R184). -/
theorem build_sendSet_tempRange {s : State} (h : build s .sendSet = .skip .tempRange) :
    s.snap.target ≠ none ∧ targetToRaw s.cfg s.snap.target = none := by
  rw [build, buildSet] at h
  split at h
  · next c _ _ _ _ htarget _ _ =>
    split at h
    · cases h
    · next hraw => exact ⟨by simp [htarget], by rw [htarget, hraw]⟩
  · cases h

/-- Settles O55, by the event the step runs. -/
theorem celsiusTargetsStayEncodable : Obligations.CelsiusTargetsStayEncodable := by
  refine ⟨fun s t hc hs h => ?_, fun s hs h => ?_⟩
  · rcases step_cases h with ⟨-, -, rfl⟩ | ⟨-, hms⟩ | ⟨i, -, hd, -, hk | ⟨req, rfl, hk⟩⟩
    · exact absurd rfl
    · refine hs.of_keptOrEncodable (exec_ms_keeps hms).cfg ?_
      rcases exec_ms_interpreted hms with hkept | ⟨-, -, i, -, hi⟩
      · exact .inl (congrArg Snapshot.target hkept.snap)
      · exact hi.targetKeptOrEncodable (s := s.advance) hc
    · exact hs.of_keptOrEncodable hk.cfg (.inl (congrArg Snapshot.target hk.snap))
    · obtain ⟨i, hd', hexec⟩ := step_next h
      obtain rfl : Instr.control req = i := Except.ok.inj (hd.symm.trans hd')
      exact hs.of_keptOrEncodable hk.cfg (exec_control_targetKeptOrEncodable (s := s.advance) hexec)
  · obtain ⟨hne, hraw⟩ := build_sendSet_tempRange h
    exact hs hne hraw

end Sys2Proof.Machine
end

section
/-! The builders by the cases of their rules (43_frames.md R181-R188), and the tick that runs what they built
(45_sequencer.md R235-R237). -/

namespace Sys2Proof.Machine

/-! ## The set builder -/

/-- A field not yet known skips the set frame (R184). -/
theorem build_sendSet_of_incomplete {s : State} (h : s.snap.complete = false) :
    build s .sendSet = .skip .snapshotIncomplete := by
  rw [build, buildSet]
  split
  · next hm hf ht hsw hp => simp [Snapshot.complete, hm, hf, ht, hsw, hp] at h
  · rfl

/-- With every field known, whether the target can be encoded decides the set builder (R183, R184). -/
theorem build_sendSet_of_known {s : State} {m : Mode} {f : Fan} {c : Rat} {sw : Bool} {pr : Preset}
    (hm : s.snap.mode = some m) (hf : s.snap.fan = some f) (ht : s.snap.target = some c) (hsw : s.snap.swing = some sw)
    (hpr : s.snap.preset = some pr) :
    build s .sendSet =
      (targetToRaw s.cfg (some c)).elim (.skip .tempRange) fun raw => .send (.set m f raw sw pr) := by
  simp only [build, buildSet, hm, hf, ht, hsw, hpr]
  cases targetToRaw s.cfg (some c) <;> rfl

/-- Settles O17, by whether the snapshot is complete and then by whether its target can be encoded. -/
theorem setBuilderReadsTheSnapshot : Obligations.SetBuilderReadsTheSnapshot := by
  refine fun s => ⟨build_sendSet_of_incomplete, fun m f c sw pr hm hf ht hsw hpr => ?_⟩
  rw [build_sendSet_of_known hm hf ht hsw hpr]
  exact ⟨fun hraw => by rw [hraw]; rfl, fun raw hraw => by rw [hraw]; rfl⟩

/-! ## The follow-me builder -/

/-- A static-pressure request is sent whatever the mode (R188). -/
theorem build_sendFollowMe_of_static {s : State} (hk : s.fmKind = .staticPressure) :
    build s .sendFollowMe = .send (.fmStatic s.fmSp) := by
  rw [build, hk, buildFmStatic]

/-- A report is suppressed while the mode is OFF or unknown (R187). -/
theorem build_sendFollowMe_of_suppressed {s : State} (hk : s.fmKind = .temp)
    (hm : s.snap.mode = none ∨ s.snap.mode = some .off) : build s .sendFollowMe = .skip .suppressed := by
  rw [build, hk]
  exact if_pos hm

/-- In any other mode the reading decides the report, and the session its subcommand (R185-R187). -/
theorem build_sendFollowMe_of_mode {s : State} (hk : s.fmKind = .temp) (hm : ∃ m, s.snap.mode = some m ∧ m ≠ .off) :
    build s .sendFollowMe =
      s.remote.elim (.skip .noReading) fun c =>
        (fromCelsius c).elim (.skip .tempRange) fun raw =>
          .send (if s.fmInit then .fmUpdate raw else .fmInit raw) := by
  obtain ⟨m, hmode, hne⟩ := hm
  have hnot : ¬ (s.snap.mode = none ∨ s.snap.mode = some .off) := by simp [hmode, hne]
  simp only [build, hk, buildFollowMe, if_neg hnot]
  cases s.remote with
  | none => rfl
  | some c => cases hraw : fromCelsius c <;> simp [hraw]

/-- Settles O18, by the kind of the request, the mode, the reading and the session. -/
theorem followMeBuilderChoosesTheFrame : Obligations.FollowMeBuilderChoosesTheFrame := by
  refine fun s => ⟨build_sendFollowMe_of_static, build_sendFollowMe_of_suppressed, fun hk hm => ?_⟩
  rw [build_sendFollowMe_of_mode hk hm]
  refine ⟨fun hr => by rw [hr]; rfl, fun c hr => ?_⟩
  rw [hr, Option.elim_some]
  refine ⟨fun hraw => by rw [hraw]; rfl, fun raw hraw => ?_⟩
  rw [hraw, Option.elim_some]
  exact ⟨fun hinit => by simp [hinit], fun hinit => by simp [hinit]⟩

/-! ## The tick -/

/-- Settles O21: a tick with a built frame is `State.tick_send`; the query builders never skip (R181, R182). -/
theorem tickRunsTheBuiltFrame : Obligations.TickRunsTheBuiltFrame :=
  ⟨fun s _ _ => s.tick_send, fun _ => ⟨rfl, rfl⟩⟩

end Sys2Proof.Machine
end

section
/-! The response interpreter (44_interpreter.md R200-R215): the pushes of a response whose items are different items, and
the exact next state of each of the five receive frames. -/

namespace Sys2Proof.Machine

/-! ## Publication of different items -/

/-- Publishing `r` does not decide whether `r'` is pushed: they are different telemetry items (R210). -/
def Reading.Separate (r r' : Reading) : Prop := ∀ t : Telemetry, (t.put r).holds r' = t.holds r'

/-- Where no two readings are of one item, the values held at the start decide every push (R210). -/
theorem pushes_eq_filter {rs : List Reading} (h : rs.Pairwise Reading.Separate) (t : Telemetry) :
    pushes t rs = (rs.filter fun r => !t.holds r).map .publish := by
  induction h generalizing t with
  | nil => rfl
  | @cons r rs hr _ ih =>
    have hrest : (rs.filter fun r' => !(t.put r).holds r') = rs.filter fun r' => !t.holds r' :=
      List.filter_congr fun r' hr' => by rw [hr r' hr' t]
    rw [pushes, ih, hrest]
    cases hheld : t.holds r <;> simp [hheld]

/-- The items of a query response are nine different ones (R209). -/
theorem queryReadings_separate (cfg : Config) (q : List Byte) : (queryReadings cfg q).Pairwise Reading.Separate := by
  simp [queryReadings, Reading.Separate, Telemetry.put, Telemetry.holds]

/-- The items of a query-extended response are two different ones (R212). -/
theorem queryExtReadings_separate (cfg : Config) (q : List Byte) :
    (queryExtReadings cfg q).Pairwise Reading.Separate := by
  simp [queryExtReadings, Reading.Separate, Telemetry.put, Telemetry.holds]

/-! ## The query-extended response -/

/-- Writing the target changes the snapshot exactly where it changes the target (R211, R213). -/
theorem Snapshot.withTarget_eq_self_iff (snap : Snapshot) (target : Temp) :
    { snap with target := target } = snap ↔ target = snap.target :=
  ⟨fun h => congrArg Snapshot.target h, fun h => by rw [h]⟩

/-- The static-pressure value is the low nibble of its byte (41_codec.md R135). -/
theorem spFromRaw_eq_ofNat (b : Byte) : spFromRaw b = BitVec.ofNat 4 (b.toNat % 16) := by
  apply BitVec.eq_of_toNat_eq
  simp [spFromRaw]

/-! ## Routing -/

/-- The interpreter has no say in the next send state (45_sequencer.md R242). -/
theorem Routed.afterSuccess_eq {s u : State} {i : Instr} (h : Routed s i u) : u.afterSuccess = s.afterSuccess := by
  obtain ⟨added, hu⟩ := h.frame
  rw [hu]
  rfl

/-- A response to a command other than `SET` leaves what its interpreter left, and the next send state (45_sequencer.md
R241, R242). -/
theorem State.route_routed {s u : State} {i : Instr} {p : SendState} (hw : s.cfg.wf = true)
    (hset : s.lastSent ≠ some .set) (hp : SucceedsTo s p) (hr : Routed s i u) :
    s.route u = .next { u with state := .send p, pending := none } :=
  State.route_interprets hw hset (hr.afterSuccess_eq.trans hp.afterSuccess)

/-- A routed response that nothing is read of only sequences, whatever was sent (R214; 45_sequencer.md R242). -/
theorem State.route_self {s : State} {p : SendState} (hw : s.cfg.wf = true) (hp : SucceedsTo s p) :
    s.route s = .next { s with state := .send p, pending := none } := by
  rw [State.route, whenAdmitted_of_wf hw, ite_self, State.success_eq, hp.afterSuccess]

/-! ## The five kinds -/

/-- Settles O29: the snapshot is `querySnapshot`, and each of the nine items is pushed where its value was not held. -/
theorem queryResponseIsApplied : Obligations.QueryResponseIsApplied := by
  intro s hdr q p hw hset hp
  have hrun : exec (.rQuery hdr q) s = .next { s.applyQuery q with state := .send p, pending := none } :=
    State.route_routed hw hset hp (.query hdr q hset)
  refine ⟨querySnapshot s q, ?_, ?_⟩
  · unfold querySnapshot
    congr 1
    · cases correctedMode s.cfg (payloadByte q s.cfg.rxq.mode) <;> rfl
    · cases decodeFan s.cfg (payloadByte q s.cfg.rxq.fan) <;> rfl
    · cases computeAction s.cfg s.snap.mode q <;> rfl
    · cases s.cfg.currentSrc <;> cases s.remote <;> rfl
  · rw [hrun, State.applyQuery_eq, pushes_eq_filter (queryReadings_separate s.cfg q), queryLogs,
      ← List.append_assoc s.out]
    rfl

/-- Settles O31: both items are pushed where their value was not held, and a refreshed target alone can notify. -/
theorem queryExtendedResponseIsApplied : Obligations.QueryExtendedResponseIsApplied := by
  intro s hdr q p hw hset hp
  have hrun : exec (.rQueryExt hdr q) s = .next { s.applyQueryExt q with state := .send p, pending := none } :=
    State.route_routed hw hset hp (.queryExt hdr q hset)
  refine ⟨extTarget s q, rfl, ?_⟩
  rw [hrun, State.applyQueryExt_eq, pushes_eq_filter (queryExtReadings_separate s.cfg q), ← spFromRaw_eq_ofNat]
  simp only [Snapshot.withTarget_eq_self_iff]
  rfl

/-- Settles O32: nothing of either frame is read, so the routing is `State.route_self`. -/
theorem setAndFollowMeResponsesOnlySequence : Obligations.SetAndFollowMeResponsesOnlySequence :=
  fun _ _ _ _ hw hp => ⟨State.route_self hw hp, State.route_self hw hp⟩

/-- Settles O33: the record is all that the routing of an unknown code leaves. -/
theorem unknownResponseIsLogged : Obligations.UnknownResponseIsLogged :=
  fun _ code hdr q _ hw hset hp => State.route_routed hw hset hp (.unknown code hdr q)

end Sys2Proof.Machine
end

section
/-! The events of the host and the sensor by their cases (45_sequencer.md R245-R249): what each answers, that none touches
an exchange in flight or the bus (R254), and which of them ends the follow-me session (R247). -/

namespace Sys2Proof.Machine

/-! ## Requests and records -/

/-- What `request` leaves is what R246 says. -/
theorem State.request_requested (s : State) (target : SendState) : Requested s target (s.request target) := by
  rw [State.request_eq]
  split
  · next h => exact .inl ⟨h, rfl⟩
  · next h => exact .inr ⟨h, rfl⟩

/-! ## `CONTROL` -/

/-- A request whose target, if any, can be encoded is accepted (R245). -/
theorem exec_control_of_encodable {s : State} {req : ControlReq} (hw : s.cfg.wf = true)
    (henc : ∀ c, req.target = some c → targetToRaw s.cfg (some c) ≠ none) :
    exec (.control req) s = .next (s.acceptControl req) := by
  change execControl req s = _
  rw [execControl, whenAdmitted_of_wf hw]
  cases ht : req.target with
  | none => rfl
  | some c => exact if_neg (henc c ht)

/-- A request whose target cannot be encoded is logged (R245, 60_exceptions.md R290). -/
theorem exec_control_of_unencodable {s : State} {req : ControlReq} {c : Rat} (hw : s.cfg.wf = true)
    (ht : req.target = some c) (henc : targetToRaw s.cfg (some c) = none) :
    exec (.control req) s = .next (s.raise (.tempRangeRequest c)) := by
  change execControl req s = _
  rw [execControl, whenAdmitted_of_wf hw, ht]
  exact if_pos henc

/-- A control request is logged or accepted (R245). -/
theorem exec_control_next {req : ControlReq} {s t : State} (h : exec (.control req) s = .next t) :
    (∃ r, t = s.raise r) ∨ t = s.acceptControl req := by
  obtain ⟨hw, -⟩ := whenAdmitted_next h
  by_cases henc : ∀ c, req.target = some c → targetToRaw s.cfg (some c) ≠ none
  · rw [exec_control_of_encodable hw henc] at h
    cases h; exact .inr rfl
  · push Not at henc
    obtain ⟨c, ht, henc⟩ := henc
    rw [exec_control_of_unencodable hw ht henc] at h
    cases h; exact .inl ⟨_, rfl⟩

/-- The request changes the mode where it names one that the snapshot does not hold (R245, R247). -/
theorem modeChanges_iff (snap : Snapshot) (req : ControlReq) :
    modeChanges snap req = true ↔ req.mode ≠ none ∧ req.mode ≠ snap.mode := by
  simp [modeChanges, Option.isSome_iff_ne_none]

/-- An accepted request ends the session exactly where it changes the mode (R247). -/
theorem State.acceptControl_fmInit (s : State) (req : ControlReq) :
    (s.acceptControl req).fmInit = if req.mode ≠ none ∧ req.mode ≠ s.snap.mode then false else s.fmInit := by
  rw [State.acceptControl, State.request_frame]
  simp only [← modeChanges_iff]

/-- Settles O40: the accepted request is its merge into the snapshot and then the request rule. -/
theorem controlRequestIsMerged : Obligations.ControlRequestIsMerged := by
  intro s req hw henc
  refine ⟨_, _, exec_control_of_encodable hw henc, State.request_requested _ _, ?_⟩
  congr 1
  · unfold Snapshot.merge
    congr 1
    · cases req.mode <;> rfl
    · cases req.fan <;> rfl
    · cases req.target <;> rfl
    · cases req.swing <;> rfl
    · cases req.preset <;> rfl
  · simp only [modeChanges_iff]

/-- Settles O41. -/
theorem unencodableTargetRejectsTheRequest : Obligations.UnencodableTargetRejectsTheRequest :=
  fun _ _ _ hw ht henc => exec_control_of_unencodable hw ht henc

/-! ## `STATIC_PRESSURE` -/

/-- A static-pressure request by its cases, range first (R248). -/
theorem exec_staticPressure_eq {s : State} (v : Byte) (hw : s.cfg.wf = true) :
    exec (.staticPressure v) s =
      if 15 < v.toNat then .next (s.raise (.spRange v))
      else if s.snap.mode ≠ some .off then .next (s.raise (.spNotOff v))
      else .next (State.request { s with fmKind := .staticPressure, fmSp := spFromRaw v } .sendFollowMe) :=
  whenAdmitted_of_wf hw _

/-- A static-pressure request is logged, or kept and requested (R248). -/
theorem exec_staticPressure_next {v : Byte} {s t : State} (h : exec (.staticPressure v) s = .next t) :
    (∃ r, t = s.raise r) ∨
      t = State.request { s with fmKind := .staticPressure, fmSp := spFromRaw v } .sendFollowMe := by
  obtain ⟨hw, -⟩ := whenAdmitted_next h
  rw [exec_staticPressure_eq v hw] at h
  split at h
  · cases h; exact .inl ⟨_, rfl⟩
  · split at h <;> cases h
    · exact .inl ⟨_, rfl⟩
    · exact .inr rfl

/-- Settles O42: up to 15 the low nibble is the value itself. -/
theorem staticPressureIsAcceptedWhileOff : Obligations.StaticPressureIsAcceptedWhileOff := by
  intro s v hw hv hoff
  have hsp : spFromRaw v = BitVec.ofNat 4 v.toNat := by
    rw [spFromRaw_eq_ofNat, Nat.mod_eq_of_lt (by omega)]
  rw [exec_staticPressure_eq v hw, if_neg (by omega), if_neg (not_not.mpr hoff), hsp]
  exact ⟨_, rfl, State.request_requested _ _⟩

/-- Settles O43: the range is judged before the mode. -/
theorem staticPressureIsRejectedOtherwise : Obligations.StaticPressureIsRejectedOtherwise := by
  intro s v hw
  rw [exec_staticPressure_eq v hw]
  exact ⟨fun hv => if_pos hv, fun hv hmode => by rw [if_neg (by omega), if_pos hmode]; rfl⟩

/-! ## `REMOTE_TEMP` -/

/-- A reading equal to the one held changes nothing, and any other is a new one (R249). -/
theorem exec_remoteTemp_eq {s : State} (x : Temp) (hw : s.cfg.wf = true) :
    exec (.remoteTemp x) s = .next (if x = s.remote then s else s.newReading x) :=
  whenAdmitted_of_wf hw _

/-- A new reading is stored, and arms the change trigger where it is present and the trigger is not armed (R249). -/
theorem State.newReading_eq (s : State) (x : Temp) :
    s.newReading x =
      if x ≠ none ∧ s.fmChgArmed = false then
        { s with remote := x, fmChgArmed := true, fmChgDeadline := s.nowMs + s.cfg.fmChangeMs }
      else { s with remote := x } := by
  simp [State.newReading, Option.isSome_iff_ne_none]

/-- Settles O44: the sum of two clock values wraps at 32 bits. -/
theorem remoteReadingIsStored : Obligations.RemoteReadingIsStored := by
  intro s x hw
  rw [exec_remoteTemp_eq x hw]
  refine ⟨fun heq => by rw [if_pos heq], fun hne hstay => ?_, fun hne hx harmed => ?_⟩
  · have hkeep : ¬ (x ≠ none ∧ s.fmChgArmed = false) := by rintro ⟨hx, ha⟩; simp [hx, ha] at hstay
    rw [if_neg hne, State.newReading_eq, if_neg hkeep]
  · have hsum : s.nowMs + s.cfg.fmChangeMs =
        BitVec.ofNat 32 ((s.nowMs.toNat + s.cfg.fmChangeMs.toNat) % 2 ^ 32) :=
      BitVec.eq_of_toNat_eq (by simp)
    rw [if_neg hne, State.newReading_eq, if_pos ⟨hx, harmed⟩, hsum]

/-! ## No preemption -/

/-- `t` follows `s` with at most a request (R246): the window and the command in flight are as before, a response is
awaited where it was, and no command is put aside where none is. Each clause holds by `rfl` of an update that does not
write its registers. -/
structure RequestsAtMost (s t : State) : Prop where
  winArmed : t.winArmed = s.winArmed := by rfl
  lastSent : t.lastSent = s.lastSent := by rfl
  awaiting : t.state = .awaiting ↔ s.state = .awaiting := by rfl
  pending : s.state ≠ .awaiting → t.pending = s.pending := by exact fun _ => rfl

theorem RequestsAtMost.trans {s t u : State} (h : RequestsAtMost s t) (h' : RequestsAtMost t u) :
    RequestsAtMost s u :=
  ⟨h'.winArmed.trans h.winArmed, h'.lastSent.trans h.lastSent, h'.awaiting.trans h.awaiting,
    fun hs => (h'.pending (mt h.awaiting.mp hs)).trans (h.pending hs)⟩

/-- `t` also keeps the clock and what was received. -/
structure HostEventKeeps (s t : State) : Prop extends RequestsAtMost s t where
  nowMs : t.nowMs = s.nowMs := by rfl
  rx : t.rx = s.rx := by rfl
  rxFifo : t.rxFifo = s.rxFifo := by rfl

theorem HostEventKeeps.trans {s t u : State} (h : HostEventKeeps s t) (h' : HostEventKeeps t u) :
    HostEventKeeps s u :=
  ⟨h.toRequestsAtMost.trans h'.toRequestsAtMost, h'.nowMs.trans h.nowMs, h'.rx.trans h.rx, h'.rxFifo.trans h.rxFifo⟩

theorem State.request_hostEventKeeps (s : State) (target : SendState) : HostEventKeeps s (s.request target) := by
  rw [State.request_eq]
  split
  · next h => exact { pending := fun hs => absurd h hs }
  · next h => exact { awaiting := by simp [h] }

/-- `CONTROL` (R245). -/
theorem exec_control_hostEventKeeps {req : ControlReq} {s t : State} (h : exec (.control req) s = .next t) :
    HostEventKeeps s t := by
  rcases exec_control_next h with ⟨r, rfl⟩ | rfl
  · exact {}
  · exact HostEventKeeps.trans (t := { s with
      snap := s.snap.merge req, fmInit := if modeChanges s.snap req then false else s.fmInit }) {}
      (State.request_hostEventKeeps _ _)

/-- `STATIC_PRESSURE` (R248). -/
theorem exec_staticPressure_hostEventKeeps {v : Byte} {s t : State} (h : exec (.staticPressure v) s = .next t) :
    HostEventKeeps s t := by
  rcases exec_staticPressure_next h with ⟨r, rfl⟩ | rfl
  · exact {}
  · exact HostEventKeeps.trans (t := { s with fmKind := .staticPressure, fmSp := spFromRaw v }) {}
      (State.request_hostEventKeeps _ _)

/-- `REMOTE_TEMP` (R249). -/
theorem exec_remoteTemp_hostEventKeeps {x : Temp} {s t : State} (h : exec (.remoteTemp x) s = .next t) :
    HostEventKeeps s t := by
  obtain ⟨hw, -⟩ := whenAdmitted_next h
  rw [exec_remoteTemp_eq x hw, State.newReading_eq] at h
  cases h
  split
  · exact {}
  · split <;> exact {}

/-- While a response is awaited, a control request writes the snapshot, the session flag, the pending slot and the log
(R245, R246). -/
theorem exec_control_awaiting {req : ControlReq} {s t : State} (ha : s.state = .awaiting)
    (h : exec (.control req) s = .next t) :
    t = { s with snap := t.snap, fmInit := t.fmInit, pending := t.pending, out := t.out } := by
  rcases exec_control_next h with ⟨r, rfl⟩ | rfl
  · rfl
  · rw [State.acceptControl_eq, if_pos ha]

/-- Settles O46: each event requests at most, and transmits nothing. -/
theorem noEventPreemptsTheExchange : Obligations.NoEventPreemptsTheExchange := by
  intro s t i ha hi h
  have hkeep : ExchangeKept s t ∧ HostEventKeeps s t := by
    rcases hi with ⟨req, rfl⟩ | ⟨v, rfl⟩ | ⟨x, rfl⟩
    · exact ⟨exec_control_exchangeKept h, exec_control_hostEventKeeps h⟩
    · exact ⟨exec_staticPressure_exchangeKept h, exec_staticPressure_hostEventKeeps h⟩
    · exact ⟨exec_remoteTemp_exchangeKept h, exec_remoteTemp_hostEventKeeps h⟩
  obtain ⟨hex, hk⟩ := hkeep
  refine ⟨⟨hk.awaiting.mpr ha, hk.lastSent, hk.winArmed, hex.winCtr, hex.tickCtr, hk.nowMs, hex.tx, hk.rx, hk.rxFifo,
    hex.out.framesOf_eq⟩, fun req hreq => ?_⟩
  subst hreq
  exact exec_control_awaiting ha h

/-! ## The end of a session -/

/-- A static-pressure request keeps the session (R248). -/
theorem exec_staticPressure_fmInit {v : Byte} {s t : State} (h : exec (.staticPressure v) s = .next t) :
    t.fmInit = s.fmInit := by
  rcases exec_staticPressure_next h with ⟨r, rfl⟩ | rfl
  · rfl
  · rw [State.request_frame]

/-- A reading keeps the session (R249). -/
theorem exec_remoteTemp_fmInit {x : Temp} {s t : State} (h : exec (.remoteTemp x) s = .next t) :
    t.fmInit = s.fmInit := by
  obtain ⟨hw, -⟩ := whenAdmitted_next h
  rw [exec_remoteTemp_eq x hw, State.newReading_eq] at h
  cases h
  split
  · rfl
  · split <;> rfl

/-- A control request that ends the session names a mode that the snapshot does not hold (R247). -/
theorem exec_control_ends_session {req : ControlReq} {s t : State} (h : exec (.control req) s = .next t)
    (hs : s.fmInit = true) (ht : t.fmInit = false) : ∃ x, req.mode = some x ∧ s.snap.mode ≠ some x := by
  rcases exec_control_next h with ⟨r, rfl⟩ | rfl
  · exact absurd (hs.symm.trans ht) nofun
  · rw [State.acceptControl_fmInit] at ht
    split at ht
    · next hmode =>
      obtain ⟨hsome, hne⟩ := hmode
      obtain ⟨x, hx⟩ := Option.ne_none_iff_exists'.mp hsome
      exact ⟨x, hx, fun hheld => hne (hx.trans hheld.symm)⟩
    · exact absurd (hs.symm.trans ht) nofun

/-- Settles O52, by the event the step runs: `MS` starts sessions only, and of the ports' events only a control request
writes the flag. -/
theorem onlyAModeRequestEndsTheSession : Obligations.OnlyAModeRequestEndsTheSession := by
  refine ⟨fun s t h hs ht => ?_, fun s req x hw hmode hheld henc => ?_⟩
  · have hends : t.fmInit ≠ s.fmInit := by simp [hs, ht]
    obtain ⟨i, hd, h⟩ := step_next h
    rcases decodeTransaction_ok hd with rfl | rfl | ⟨req, rfl⟩ | ⟨v, rfl⟩ | ⟨x, rfl⟩ | ⟨bs, rfl⟩
    · exact absurd (((exec_ms_keeps h).fmInit hs).trans hs.symm) hends
    · exact .inl hd
    · obtain ⟨x, hx, hne⟩ := exec_control_ends_session h hs ht
      exact .inr ⟨req, x, hd, hx, hne⟩
    · exact absurd (exec_staticPressure_fmInit h) hends
    · exact absurd (exec_remoteTemp_fmInit h) hends
    · obtain ⟨hw, -⟩ := whenAdmitted_next h
      rw [exec_rx bs hw] at h
      cases h
      exact absurd rfl hends
  · refine ⟨_, exec_control_of_encodable hw henc, ?_⟩
    rw [State.acceptControl_fmInit, if_pos ⟨by simp [hmode], fun hheld' => hheld (hheld'.symm.trans hmode)⟩]

end Sys2Proof.Machine
end

section
/-! The invariants I-a to I-d (10_state.md R37): every event keeps them (45_sequencer.md R252), and no tick falls while a
response is awaited (R238). -/

namespace Sys2Proof.Machine

/-! ## The invariants by the control state -/

/-- I-d holds by the width of the register (00_scope.md R11). -/
theorem State.staticPressureInRange_of_width (s : State) : s.staticPressureInRange :=
  fun _ => Nat.le_of_lt_succ s.fmSp.isLt

/-- In a send state the invariants ask for an empty slot and no window. -/
theorem State.inv_of_send {s : State} {p : SendState} (hs : s.state = .send p) (hp : s.pending = none)
    (hw : s.winArmed = false) : s.Inv where
  pendingOnlyAwaiting h := absurd hp h
  windowIffAwaiting := by simp [State.windowIffAwaiting, hs, hw]
  awaitingKnowsCommand h := by simp [hs] at h
  staticPressureInRange := s.staticPressureInRange_of_width

/-- While a response is awaited they ask for its window and its command. -/
theorem State.inv_of_awaiting {s : State} (hs : s.state = .awaiting) (hw : s.winArmed = true)
    (hl : s.lastSent ≠ none) : s.Inv where
  pendingOnlyAwaiting _ := hs
  windowIffAwaiting := ⟨fun _ => hs, fun _ => hw⟩
  awaitingKnowsCommand _ := hl
  staticPressureInRange := s.staticPressureInRange_of_width

/-- A request at most keeps them (R246). -/
theorem RequestsAtMost.inv {s t : State} (h : RequestsAtMost s t) (hs : s.Inv) : t.Inv where
  pendingOnlyAwaiting hp := by
    by_contra ht
    have hidle : s.state ≠ .awaiting := mt h.awaiting.mpr ht
    exact hidle (hs.pendingOnlyAwaiting (h.pending hidle ▸ hp))
  windowIffAwaiting := by
    rw [State.windowIffAwaiting, h.winArmed, h.awaiting]
    exact hs.windowIffAwaiting
  awaitingKnowsCommand ha := by
    rw [h.lastSent]
    exact hs.awaitingKnowsCommand (h.awaiting.mp ha)
  staticPressureInRange := t.staticPressureInRange_of_width

/-! ## The sub-steps of `MS` -/

/-- A closed window leaves a send state, an empty slot and no window armed (R242, R244). -/
theorem State.receive_inv {s t : State} (hw : s.winArmed = false) (h : s.receive = .next t) : t.Inv := by
  obtain ⟨u, p, hr, rfl⟩ := State.receive_next h
  obtain ⟨_, hu⟩ := hr.frame
  exact State.inv_of_send rfl rfl (by rw [hu]; exact hw)

/-- The response window (R233). -/
theorem State.window_inv {s w : State} (hs : s.Inv) (h : s.window = .next w) : w.Inv := by
  rcases s.window_cases with ⟨-, hw⟩ | ⟨-, -, hw⟩ | ⟨-, -, hw⟩ <;> rw [hw] at h
  · cases h; exact hs
  · cases h; exact RequestsAtMost.inv {} hs
  · exact State.receive_inv rfl h

/-- The scheduler requests at most (R234). -/
theorem State.schedule_requestsAtMost (s : State) : RequestsAtMost s s.schedule := by
  obtain ⟨hframe, hawaiting, hpending⟩ := s.schedule_frame
  exact ⟨by rw [hframe], by rw [hframe], hawaiting, hpending⟩

/-- The tick counts, skips into a send state, or sends and awaits the response (R235-R238, R251). -/
theorem State.tick_inv {s t : State} (hs : s.Inv) (h : s.tick = .next t) : t.Inv := by
  rcases s.tick_cases with ⟨-, ht⟩ | ⟨-, -, ht⟩ | ⟨_, _, -, hsend, -, ht⟩ | ⟨_, i, -, -, -, hi, ht⟩ <;> rw [ht] at h
  · cases h; exact RequestsAtMost.inv {} hs
  · cases h; exact RequestsAtMost.inv {} hs
  · cases h; exact RequestsAtMost.inv { awaiting := by simp [hsend] } hs
  · obtain ⟨c, p, u, -, -, -, he⟩ := exec_transmit hi { s with tickCtr := 0 }
    obtain ⟨-, h⟩ := whenAdmitted_next (he.symm.trans h)
    cases h
    exact State.inv_of_awaiting rfl rfl nofun

/-- `MS` keeps the invariants, by its sub-steps (R231). -/
theorem exec_ms_inv {s t : State} (hs : s.Inv) (h : exec .ms s = .next t) : t.Inv := by
  obtain ⟨-, w, hwin, htick⟩ := execMs_next h
  have htime : s.tickTime.Inv := RequestsAtMost.inv {} hs
  exact State.tick_inv (w.schedule_requestsAtMost.inv (State.window_inv htime hwin)) htick

/-! ## The step -/

/-- Settles O47: a reset starts with the invariants, `MS` keeps them, and every other event requests at most. -/
theorem stepKeepsTheInvariants : Obligations.StepKeepsTheInvariants := by
  intro s t hs h
  obtain ⟨i, hd, h⟩ := step_next h
  have hadvance : s.advance.Inv := RequestsAtMost.inv {} hs
  rcases decodeTransaction_ok hd with rfl | rfl | ⟨req, rfl⟩ | ⟨v, rfl⟩ | ⟨x, rfl⟩ | ⟨bs, rfl⟩
  · exact exec_ms_inv hadvance h
  · obtain ⟨-, rfl⟩ := exec_reset_next h
    exact State.inv_of_send rfl rfl rfl
  · exact (exec_control_hostEventKeeps h).inv hadvance
  · exact (exec_staticPressure_hostEventKeeps h).inv hadvance
  · exact (exec_remoteTemp_hostEventKeeps h).inv hadvance
  · obtain ⟨-, h⟩ := whenAdmitted_next h
    cases h
    exact RequestsAtMost.inv {} hadvance

/-! ## Ticks and windows -/

/-- No tick falls while a response is awaited, since its window is shorter than the tick period (R235; 30_encoding.md
R95, `WF_TIMING`). -/
theorem State.ClocksAgree.tick_ne_of_awaiting {n : Nat} {s : State} (h : s.ClocksAgree n) (hw : s.cfg.wf = true)
    (ha : s.state = .awaiting) : s.tickCtr + 1 ≠ s.cfg.tickMs := by
  obtain ⟨-, hlt⟩ := Config.wf_timing hw
  have hpos := h.awaitingPositive ha
  have hsum := h.awaitingSum ha
  bv_omega

/-- Settles O50: the window and the scheduler leave the clocks in agreement. -/
theorem tickNeverFindsAwaiting : Obligations.TickNeverFindsAwaiting := by
  refine ⟨fun s hs ht => s.tick_awaiting ht hs, fun s w hw hinv htiming hwin ht ha => ?_⟩
  have htime : s.tickTime.ClocksAgree 0 := ExchangeKept.clocksAgree {} (s.timingWf_iff.mp htiming)
  have hwindow : w.ClocksAgree 1 := State.window_clocksAgree (s := s.tickTime) hinv.windowIffAwaiting htime hwin
  have hclocks := w.schedule_exchangeKept.clocksAgree hwindow
  have hcfg := (State.beforeTick_noTick hwin).cfg
  exact hclocks.tick_ne_of_awaiting (hcfg ▸ hw) ha ht

end Sys2Proof.Machine
end

section
/-! The sub-steps of `MS` by their exact effects (45_sequencer.md R231-R235), the exchanges that a skipped send, a capture
of the wrong length or a response to `SET` ends (R239-R244, R251), and the cycle table (R243). -/

namespace Sys2Proof.Machine

/-! ## `MS` and its quiet millisecond -/

/-- Settles O20. -/
theorem millisecondRunsItsSubstepsInOrder : Obligations.MillisecondRunsItsSubstepsInOrder := by
  intro s hw
  refine (whenAdmitted_of_wf hw _).trans ?_
  change andThen (State.window { s with nowMs := s.nowMs + 1 }) _ = _
  cases State.window { s with nowMs := s.nowMs + 1 } <;> rfl

/-- When a report is due (R234). -/
theorem State.reportDue_iff (s : State) :
    s.reportDue = true ↔
      (∃ m, s.snap.mode = some m ∧ m ≠ .off) ∧ s.remote ≠ none ∧
        (s.cfg.fmPeriodMs ≤ s.nowMs - s.fmLastMs ∨
          (s.fmChgArmed = true ∧ s.nowMs - s.fmChgDeadline < 0x80000000)) := by
  have hmode : (s.snap.mode.isSome && s.snap.mode != some .off) = true ↔ ∃ m, s.snap.mode = some m ∧ m ≠ .off := by
    cases s.snap.mode <;> simp
  rw [State.reportDue, Bool.and_eq_true, Bool.and_eq_true, hmode, and_assoc, Option.isSome_iff_ne_none]
  simp only [Bool.or_eq_true, Bool.and_eq_true, decide_eq_true_eq]
  rfl

/-- The scheduler changes nothing where no report is due. -/
theorem State.schedule_of_not_due {s : State} (h : s.reportDue ≠ true) : s.schedule = s := if_neg h

/-- Settles O25. -/
theorem schedulerFiresExactlyWhenDue : Obligations.SchedulerFiresExactlyWhenDue := by
  intro s
  rw [← s.reportDue_iff]
  refine ⟨fun hdue => ?_, State.schedule_of_not_due⟩
  rw [State.schedule, if_pos hdue]
  exact State.request_requested _ _

/-- A window that does not close only counts where it is armed (R233). -/
theorem State.window_of_open {s : State} (h : s.winArmed = true → s.winCtr ≠ 1) :
    s.window = .next { s with winCtr := if s.winArmed then s.winCtr - 1 else s.winCtr } := by
  rcases s.window_cases with ⟨ha, hw⟩ | ⟨ha, -, hw⟩ | ⟨ha, hc, -⟩
  · rw [hw, if_neg (by simp [ha])]
  · rw [hw, if_pos ha]
  · exact absurd hc (h ha)

/-- A millisecond at which no tick falls only counts (R235). -/
theorem State.tick_of_ne {s : State} (h : s.tickCtr + 1 ≠ s.cfg.tickMs) :
    s.tick = .next { s with tickCtr := s.tickCtr + 1 } := if_neg h

/-- `MS` from the outcome of its window (R231). -/
theorem exec_ms_of_window {s w : State} (hw : s.cfg.wf = true) (h : s.tickTime.window = .next w) :
    exec .ms s = w.schedule.tick := by
  refine (whenAdmitted_of_wf hw _).trans ?_
  rw [h]
  rfl

/-- Settles O24: each sub-step after the time only counts. -/
theorem quietMillisecondOnlyCounts : Obligations.QuietMillisecondOnlyCounts := by
  intro s hw hopen hquiet htick
  have hdue : ∀ c : U32, State.reportDue { s.tickTime with winCtr := c } ≠ true := by
    intro c hdue
    obtain ⟨⟨m, hm, hne⟩, hremote, hwhen⟩ := (State.reportDue_iff _).mp hdue
    rcases hquiet with hnone | hoff | hnone | ⟨hperiod, hdeadline⟩
    · exact absurd (hm.symm.trans hnone) nofun
    · exact hne (Option.some.inj (hm.symm.trans hoff))
    · exact hremote hnone
    · rcases hwhen with hover | ⟨harmed, hreached⟩
      · exact BitVec.not_lt.mpr hover hperiod
      · exact BitVec.not_lt.mpr (hdeadline harmed) hreached
  rw [exec_ms_of_window hw (State.window_of_open (s := s.tickTime) hopen), State.schedule_of_not_due (hdue _)]
  exact State.tick_of_ne htick

/-! ## A skipped send -/

/-- Settles O26. -/
theorem skippedSendFallsBackToQuery : Obligations.SkippedSendFallsBackToQuery := by
  intro s target reason ht hs hb
  rw [s.tick_skip ht hs hb]
  cases reason <;> rfl

/-! ## A capture of the wrong length -/

/-- What the drain leaves in the receive buffer: the first bytes of the FIFO, as far as both reach (20_memory.md R62;
R239). -/
theorem State.read_drain_rx_of_any {s : State} (hw : Memory.wf rxLen s.rx = true) (a : Nat) :
    Memory.read s.drain.rx a =
      if a < 32 ∧ a < s.rxFifo.length then s.rxFifo.getD a 0 else Memory.read s.rx a := by
  have hlen : (s.rxFifo.take rxLen).length = min 32 s.rxFifo.length := List.length_take
  rw [State.drain_rx, Memory.read_store rxLen _ _ 0 a (by rw [hlen, rxLen]; omega) hw, hlen]
  by_cases ha : a < 32 ∧ a < s.rxFifo.length
  · rw [if_pos ha, if_pos (by omega)]
    simp [List.getD_eq_getElem?_getD, rxLen, ha.1]
  · rw [if_neg ha, if_neg (by omega)]

/-- The count saturates at 255 (R239). -/
theorem State.drain_count_saturates (s : State) :
    s.drain.rxCount = if s.rxFifo.length < 255 then BitVec.ofNat 8 s.rxFifo.length else 255 := by
  rw [State.drain_rxCount]
  split
  · next h => rw [Nat.min_eq_left h.le]
  · next h => rw [Nat.min_eq_right (by omega)]; rfl

/-- The receive step over a capture of the wrong length (R239, R240, R244). -/
theorem State.receive_wrong_length {s : State} {p : SendState} (hw : Memory.wf rxLen s.rx = true)
    (hl : s.rxFifo.length ≠ rxLen) (hp : FailsTo s p) :
    ∃ t, s.receive = .next t ∧ ExchangeFailed p (.len s.rxFifo.length) s t := by
  refine ⟨{ s.drain.raise (.len s.rxFifo.length) with state := .send p, pending := none }, ?_, ?_,
    State.read_drain_rx_of_any hw⟩
  · rw [State.receive, if_pos hl]
    exact State.failure_of_failsTo (s := s.drain.raise (.len s.rxFifo.length)) hp
  · rw [← State.drain_count_saturates]
    rfl

/-- Settles O27: the close of the window is the receive step on the state with the window disarmed. -/
theorem wrongLengthCaptureFailsTheExchange : Obligations.WrongLengthCaptureFailsTheExchange := by
  intro s p hbuf hl hp
  obtain ⟨-, hw⟩ := hbuf
  refine ⟨State.receive_wrong_length hw hl hp, fun harmed hctr => ?_⟩
  rw [State.window_closes harmed hctr]
  exact State.receive_wrong_length (s := { s with winArmed := false, winCtr := 0 }) hw hl hp

/-! ## A response to `SET`, and the cycle -/

/-- After a `SET` the routing is the next send state alone, whatever the interpreter would leave (R241). -/
theorem State.route_of_set {s : State} {p : SendState} (hw : s.cfg.wf = true) (hset : s.lastSent = some .set)
    (hp : SucceedsTo s p) (u : State) : s.route u = .next { s with state := .send p, pending := none } := by
  rw [State.route, whenAdmitted_of_wf hw, if_pos hset, State.success_eq, hp.afterSuccess]

/-- Settles O34: each of the five responses is routed. -/
theorem responseToSetIsNotInterpreted : Obligations.ResponseToSetIsNotInterpreted := by
  intro s code hdr q i p hw hset hp hi
  rcases hi with rfl | rfl | rfl | rfl | rfl <;> exact State.route_of_set hw hset hp _

/-- Settles O35: the table is the definition's. -/
theorem cycleTable : Obligations.CycleTable := ⟨rfl, rfl, rfl, rfl, rfl, rfl, rfl, rfl⟩

end Sys2Proof.Machine
end

section
/-! Runs without input (45_sequencer.md R251, R253; 70_reset_and_hazards.md R323): a response is awaited until its window
closes, and where the scheduler has nothing to report a frame goes out at the next tick or the one after. -/

namespace Sys2Proof.Machine

/-! ## A step without input -/

/-- With no transaction waiting the step is `MS` (10_state.md R41). -/
theorem step_of_noInput {s : State} (h : s.noInput) : step s = exec .ms s := by
  have hfetch : s.fetch = ⟨.ms, .ms⟩ := by rw [State.fetch, h]
  have hadvance : s.advance = s := by rw [State.advance, h, List.tail_nil, ← h]
  rw [step, hfetch, hadvance]
  rfl

/-- The machine runs by itself: no input waits, and the configuration, the invariants and the clocks are such that every
`MS` completes. -/
structure State.Running (s : State) : Prop where
  wf : s.cfg.wf = true
  inv : s.Inv
  timing : s.TimingWf
  noInput : s.noInput

/-- The running machine takes an `MS` and keeps running (R231, R252). -/
theorem State.Running.step {s : State} (h : s.Running) : ∃ t, step s = .next t ∧ exec .ms s = .next t ∧ t.Running := by
  obtain ⟨t, ht⟩ := exec_ms_completes h.wf fun harmed =>
    h.inv.awaitingKnowsCommand (h.inv.windowIffAwaiting.mp harmed)
  have hk := exec_ms_keeps ht
  have hclocks := exec_ms_clocksAgree h.inv.windowIffAwaiting (s.timingWf_iff.mp h.timing) ht
  exact ⟨t, (step_of_noInput h.noInput).trans ht, ht, hk.cfg ▸ h.wf, exec_ms_inv h.inv ht,
    t.timingWf_iff.mpr hclocks, hk.inbox.trans h.noInput⟩

/-- While the running machine awaits a response, the next millisecond is not a tick's (R238). -/
theorem State.Running.tick_ne_of_awaiting {s : State} (h : s.Running) (ha : s.state = .awaiting) :
    s.tickCtr + 1 ≠ s.cfg.tickMs :=
  (s.timingWf_iff.mp h.timing).tick_ne_of_awaiting h.wf ha

/-- An `MS` at which no tick falls is its window and its scheduler, and one more on the tick counter (R231, R235). -/
theorem exec_ms_without_tick {s t : State} (hne : s.tickCtr + 1 ≠ s.cfg.tickMs) (h : exec .ms s = .next t) :
    ∃ w, s.tickTime.window = .next w ∧ t = { w.schedule with tickCtr := s.tickCtr + 1 } := by
  obtain ⟨-, w, hwin, htick⟩ := execMs_next h
  have hk := State.beforeTick_noTick hwin
  rw [State.tick_of_ne (by rwa [hk.tickCtr, hk.cfg]), hk.tickCtr] at htick
  cases htick
  exact ⟨w, hwin, rfl⟩

/-! ## An exchange and its window -/

/-- The receive step does not write the command in flight (R239-R244). -/
theorem State.receive_lastSent {s t : State} (h : s.receive = .next t) : t.lastSent = s.lastSent := by
  obtain ⟨u, p, hr, rfl⟩ := State.receive_next h
  obtain ⟨_, hu⟩ := hr.frame
  rw [hu]

/-- While the window has more than one millisecond left, the exchange only gets one millisecond older (R233). -/
theorem exec_ms_awaits {s t : State} (hne : s.tickCtr + 1 ≠ s.cfg.tickMs) (ha : s.state = .awaiting)
    (harmed : s.winArmed = true) (hc : s.winCtr ≠ 1) (h : exec .ms s = .next t) :
    t.state = .awaiting ∧ t.lastSent = s.lastSent ∧ t.winCtr = s.winCtr - 1 := by
  obtain ⟨w, hwin, rfl⟩ := exec_ms_without_tick hne h
  rw [State.window_of_open (s := s.tickTime) fun _ => hc] at hwin
  cases hwin
  refine ⟨(State.schedule_requestsAtMost _).awaiting.mpr ha, (State.schedule_requestsAtMost _).lastSent, ?_⟩
  exact (State.schedule_exchangeKept _).winCtr.trans (if_pos harmed)

/-- In its last millisecond the window closes, and the exchange has ended (R233, R242, R244). -/
theorem exec_ms_closes {s t : State} (hne : s.tickCtr + 1 ≠ s.cfg.tickMs) (harmed : s.winArmed = true)
    (hc : s.winCtr = 1) (h : exec .ms s = .next t) : t.state ≠ .awaiting ∧ t.lastSent = s.lastSent := by
  obtain ⟨w, hwin, rfl⟩ := exec_ms_without_tick hne h
  rw [State.window_closes (s := s.tickTime) harmed hc] at hwin
  have hk := w.schedule_requestsAtMost
  have hlast : w.lastSent = s.lastSent := (State.receive_lastSent hwin :)
  exact ⟨mt hk.awaiting.mp (State.receive_leaves_awaiting hwin), hk.lastSent.trans hlast⟩

/-- An exchange lasts exactly the milliseconds that its window has left. -/
theorem State.Running.exchange_lasts (n : Nat) : ∀ {s : State}, s.Running → s.state = .awaiting →
    s.winCtr.toNat = n + 1 →
    (∀ k, k < n + 1 → ∃ u, reaches k s u ∧ u.state = .awaiting ∧ u.lastSent = s.lastSent) ∧
    ∃ t, reaches (n + 1) s t ∧ t.state ≠ .awaiting ∧ t.lastSent = s.lastSent := by
  induction n with
  | zero =>
    intro s hs ha hn
    obtain ⟨t, hstep, hms, -⟩ := hs.step
    obtain ⟨hstate, hlast⟩ := exec_ms_closes (hs.tick_ne_of_awaiting ha) (hs.inv.windowIffAwaiting.mpr ha)
      (BitVec.eq_of_toNat_eq hn) hms
    refine ⟨fun k hk => ?_, t, reaches_step hstep (reaches_zero t), hstate, hlast⟩
    obtain rfl : k = 0 := by omega
    exact ⟨s, reaches_zero s, ha, rfl⟩
  | succ n ih =>
    intro s hs ha hn
    obtain ⟨u, hstep, hms, hu⟩ := hs.step
    obtain ⟨hstate, hlast, hctr⟩ := exec_ms_awaits (hs.tick_ne_of_awaiting ha) ha
      (hs.inv.windowIffAwaiting.mpr ha) (by bv_omega) hms
    obtain ⟨hwait, t, ht, hend, htlast⟩ := ih hu hstate (by bv_omega)
    refine ⟨fun k hk => ?_, t, reaches_step hstep ht, hend, htlast.trans hlast⟩
    cases k with
    | zero => exact ⟨s, reaches_zero s, ha, rfl⟩
    | succ k =>
      obtain ⟨v, hv, hvstate, hvlast⟩ := hwait k (by omega)
      exact ⟨v, reaches_step hstep hv, hvstate, hvlast.trans hlast⟩

/-- Settles O58, by induction on the milliseconds that the window has left. -/
theorem everyExchangeEndsWithItsWindow : Obligations.EveryExchangeEndsWithItsWindow := by
  intro s hw hinv htiming hinput ha
  obtain ⟨n, hn⟩ := Nat.exists_eq_add_one.mpr (htiming.awaitingPositive ha)
  rw [hn]
  exact State.Running.exchange_lasts n ⟨hw, hinv, htiming, hinput⟩ ha hn

/-! ## The next frame -/

/-- With no reading held no report is due (R234). -/
theorem State.schedule_of_no_reading {s : State} (h : s.remote = none) : s.schedule = s :=
  State.schedule_of_not_due fun hdue => by
    obtain ⟨-, hremote, -⟩ := s.reportDue_iff.mp hdue
    exact hremote h

/-- In a send state with no reading held an `MS` is its time and its tick (R231). -/
theorem State.Running.exec_ms_of_send {s : State} (h : s.Running) (hr : s.remote = none) (hs : s.state ≠ .awaiting) :
    exec .ms s = s.tickTime.tick := by
  have hidle : s.winArmed ≠ true := mt h.inv.windowIffAwaiting.mp hs
  have hwin : s.tickTime.window = .next s.tickTime := if_neg hidle
  rw [exec_ms_of_window h.wf hwin, State.schedule_of_no_reading (s := s.tickTime) hr]

/-- What milliseconds without a tick leave of `s`: no frame went out, and `SEND_QUERY` stays the next state. -/
structure Waits (s t : State) : Prop where
  cfg : t.cfg = s.cfg
  remote : t.remote = s.remote
  out : AddsNoFrame s t
  query : s.state = .send .sendQuery → t.state = .send .sendQuery

theorem Waits.refl (s : State) : Waits s s := ⟨rfl, rfl, .of_out_eq rfl, id⟩

theorem Waits.trans {s t u : State} (h : Waits s t) (h' : Waits t u) : Waits s u :=
  ⟨h'.cfg.trans h.cfg, h'.remote.trans h.remote, h.out.trans h'.out, fun hs => h'.query (h.query hs)⟩

/-- A millisecond without a tick (R231, R235). -/
theorem State.Running.waits {s t : State} (h : s.Running) (hr : s.remote = none)
    (hne : s.tickCtr + 1 ≠ s.cfg.tickMs) (ht : exec .ms s = .next t) :
    Waits s t ∧ t.tickCtr = s.tickCtr + 1 := by
  have hk := exec_ms_keeps ht
  refine ⟨⟨hk.cfg, hk.remote, ?_, fun hs => ?_⟩, ?_⟩
  · obtain ⟨w, hwin, rfl⟩ := exec_ms_without_tick hne ht
    exact (State.beforeTick_noTick hwin).out.trans (.of_out_eq rfl)
  · rw [h.exec_ms_of_send hr (by simp [hs]), State.tick_of_ne (s := s.tickTime) hne] at ht
    cases ht
    exact hs
  · obtain ⟨w, -, rfl⟩ := exec_ms_without_tick hne ht
    rfl

/-- The machine waits for its tick: `n` milliseconds later the next one is the tick's (R235). -/
theorem State.Running.reaches_tick (n : Nat) : ∀ {s : State}, s.Running → s.remote = none →
    s.tickCtr.toNat + 1 + n = s.cfg.tickMs.toNat →
    ∃ u, reaches n s u ∧ u.Running ∧ Waits s u ∧ u.tickCtr + 1 = u.cfg.tickMs := by
  induction n with
  | zero => exact fun {s} h _ hn => ⟨s, reaches_zero s, h, .refl s, by bv_omega⟩
  | succ n ih =>
    intro s h hr hn
    obtain ⟨t, hstep, hms, ht⟩ := h.step
    obtain ⟨hwait, hctr⟩ := h.waits hr (by bv_omega) hms
    obtain ⟨u, hrun, hu, hwait', htick⟩ := ih ht (hwait.remote.trans hr) (by rw [hctr, hwait.cfg]; bv_omega)
    exact ⟨u, reaches_step hstep hrun, hu, hwait.trans hwait', htick⟩

/-- A transmit frame that answers a next state hands over one frame (R237). -/
theorem exec_transmit_framesOf {i : Instr} (hi : Instr.isTransmit i) {s t : State} (h : exec i s = .next t) :
    ∃ f, framesOf t.out = framesOf s.out ++ [f] := by
  obtain ⟨c, p, u, -, -, -, he⟩ := exec_transmit hi s
  obtain ⟨-, h⟩ := whenAdmitted_next (he.symm.trans h)
  cases h
  exact ⟨_, framesOf_append _ _⟩

/-- What a tick leaves: one frame more, or no frame and `SEND_QUERY` after a send that was no query (R237, R251). -/
def SendsOrSkips (s t : State) : Prop :=
  (∃ f, framesOf t.out = framesOf s.out ++ [f]) ∨
  (s.state ≠ .send .sendQuery ∧ t.state = .send .sendQuery ∧ framesOf t.out = framesOf s.out)

/-- Waiting before the tick adds nothing to it. -/
theorem Waits.sendsOrSkips {s t u : State} (h : Waits s t) (h' : SendsOrSkips t u) : SendsOrSkips s u :=
  h'.imp (fun ⟨f, hf⟩ => ⟨f, by rw [hf, h.out.framesOf_eq]⟩)
    fun ⟨hne, hquery, hout⟩ => ⟨mt h.query hne, hquery, hout.trans h.out.framesOf_eq⟩

/-- The tick of the running machine, whose query builder never skips (43_frames.md R181). -/
theorem State.Running.tick_sendsOrSkips {s t : State} (h : s.Running) (hr : s.remote = none)
    (htick : s.tickCtr + 1 = s.cfg.tickMs) (ht : exec .ms s = .next t) : SendsOrSkips s t := by
  have hsend : s.state ≠ .awaiting := fun ha => h.tick_ne_of_awaiting ha htick
  rw [h.exec_ms_of_send hr hsend] at ht
  rcases s.tickTime.tick_cases with ⟨hne, -⟩ | ⟨-, ha, -⟩ | ⟨target, reason, -, hs, hb, hskip⟩ | ⟨_, i, -, -, -, hi, he⟩
  · exact absurd htick hne
  · exact absurd ha hsend
  · rw [hskip] at ht
    cases ht
    refine .inr ⟨fun hquery => ?_, rfl, AddsNoFrame.framesOf_eq ⟨reason.log target, rfl, ?_⟩⟩
    · obtain rfl : target = .sendQuery := CtrlState.send.inj (hs.symm.trans hquery)
      cases hb
    · cases reason <;> rfl
  · exact .inl (exec_transmit_framesOf (s := { s.tickTime with tickCtr := 0 }) hi (he.symm.trans ht))

/-- The machine reaches its next tick when the milliseconds left of the period have passed (R235). -/
theorem State.Running.next_tick {s : State} (h : s.Running) (hr : s.remote = none) :
    ∃ n t, s.tickCtr.toNat + n = s.cfg.tickMs.toNat ∧ reaches n s t ∧ t.Running ∧ t.remote = none ∧ t.cfg = s.cfg ∧
      SendsOrSkips s t := by
  obtain ⟨n, hn⟩ : ∃ n, s.tickCtr.toNat + 1 + n = s.cfg.tickMs.toNat :=
    ⟨_, Nat.add_sub_cancel' h.timing.tickBelow⟩
  obtain ⟨u, hrun, hu, hwait, htick⟩ := h.reaches_tick n hr hn
  have hur : u.remote = none := hwait.remote.trans hr
  obtain ⟨t, hstep, hms, ht⟩ := hu.step
  have hk := exec_ms_keeps hms
  exact ⟨n + 1, t, by omega, reaches_add hrun (reaches_step hstep (reaches_zero t)), ht, hk.remote.trans hur,
    hk.cfg.trans hwait.cfg, hwait.sendsOrSkips (hu.tick_sendsOrSkips hur htick hms)⟩

/-- Settles O59: the tick of this period sends, or skips into `SEND_QUERY`, which the tick of the next one sends. -/
theorem aFrameGoesOutWithinTwoTicks : Obligations.AFrameGoesOutWithinTwoTicks := by
  intro s hw hinv htiming _ hinput hr
  have hs : s.Running := ⟨hw, hinv, htiming, hinput⟩
  obtain ⟨n, u, hn, hsu, hu, hur, hcfg, ⟨f, hf⟩ | ⟨-, hquery, hskip⟩⟩ := hs.next_tick hr
  · exact ⟨n, u, by omega, hsu, f, hf⟩
  · obtain ⟨m, t, hm, hut, -, -, -, ⟨f, hf⟩ | ⟨hne, -⟩⟩ := hu.next_tick hur
    · rw [hcfg] at hm
      exact ⟨n + m, t, by omega, reaches_add hsu hut, f, by rw [hf, hskip]⟩
    · exact absurd hquery hne

end Sys2Proof.Machine
end

section
/-! `RESET` and the run that follows it without input (70_reset_and_hazards.md R310-R312, R314): the tick counter counts
up to the first tick, which finds `SEND_QUERY` and sends. -/

namespace Sys2Proof.Machine

/-! ## `RESET` -/

/-- `RESET` under an admitted supplied configuration completes (R310, R311). -/
theorem exec_reset_of_wf {s : State} (hw : s.cfgIn.wf = true) : exec .reset s = .next s.afterReset := if_pos hw

/-- Settles O37: the state after `RESET` holds the reset table field by field. -/
theorem resetSetsEveryRegister : Obligations.ResetSetsEveryRegister := fun s hw =>
  ⟨s.afterReset, exec_reset_of_wf hw, rfl⟩

/-! ## The first tick period -/

/-- The state `k` milliseconds after a reset, while the first tick is still to come (R312). -/
def State.countedFromReset (c : Config) (k : Nat) : State :=
  { State.resetWith c with nowMs := BitVec.ofNat 32 k, tickCtr := BitVec.ofNat 32 k }

theorem State.countedFromReset_noInput (c : Config) (k : Nat) : (State.countedFromReset c k).noInput := rfl

/-- One millisecond later both counters are one higher. -/
theorem State.countedFromReset_succ (c : Config) (k : Nat) :
    State.countedFromReset c (k + 1) =
      { State.countedFromReset c k with nowMs := BitVec.ofNat 32 k + 1, tickCtr := BitVec.ofNat 32 k + 1 } := by
  rw [State.countedFromReset, BitVec.ofNat_add k 1]
  rfl

/-- A millisecond before the first tick only counts: no window is armed and no mode is held. -/
theorem step_countedFromReset {c : Config} (hw : c.wf = true) {k : Nat} (hk : k + 1 < c.tickMs.toNat) :
    step (State.countedFromReset c k) = .next (State.countedFromReset c (k + 1)) := by
  have hbefore : BitVec.ofNat 32 k + 1 ≠ c.tickMs := by bv_omega
  rw [step_of_noInput (State.countedFromReset_noInput c k), State.countedFromReset_succ]
  exact quietMillisecondOnlyCounts (State.countedFromReset c k) hw nofun (.inl rfl) hbefore

/-- The milliseconds before the first tick, by induction on their number. -/
theorem reaches_countedFromReset {c : Config} (hw : c.wf = true) {k : Nat} (hk : k < c.tickMs.toNat) :
    reaches k (State.resetWith c) (State.countedFromReset c k) := by
  induction k with
  | zero => exact reaches_zero _
  | succ k ih => exact reaches_add (ih (by omega)) (reaches_step (step_countedFromReset hw hk) (reaches_zero _))

/-- The first tick finds `SEND_QUERY` and sends its frame (45_sequencer.md R235-R237; 43_frames.md R181). -/
theorem step_countedFromReset_tick {c : Config} (hw : c.wf = true) {k : Nat} (hk : k + 1 = c.tickMs.toNat) :
    step (State.countedFromReset c k) =
      exec .query { (State.countedFromReset c k).tickTime with tickCtr := 0 } := by
  have htick : BitVec.ofNat 32 k + 1 = c.tickMs := by bv_omega
  calc step (State.countedFromReset c k)
    _ = exec .ms (State.countedFromReset c k) := step_of_noInput (State.countedFromReset_noInput c k)
    _ = (State.countedFromReset c k).tickTime.schedule.tick := exec_ms_of_window hw rfl
    _ = (State.countedFromReset c k).tickTime.tick := by rw [State.schedule_of_no_reading rfl]
    _ = _ := State.tick_send _ htick rfl rfl

/-- Settles O57: the counting milliseconds, and then the tick. -/
theorem firstTickAfterResetSendsQuery : Obligations.FirstTickAfterResetSendsQuery := by
  refine fun c hw => ⟨fun k hk => reaches_countedFromReset hw hk, ?_⟩
  obtain ⟨hpos, hlt⟩ := Config.wf_timing hw
  obtain ⟨k, hk⟩ : ∃ k, c.tickMs.toNat = k + 1 := Nat.exists_eq_add_one.mpr (by bv_omega)
  obtain ⟨t, hquery, hsent⟩ := (queryFramesAreSent
    { (State.countedFromReset c k).tickTime with tickCtr := 0 } hw ⟨rfl, rfl⟩).1
  obtain ⟨hstate, hlast, f, hf, hout⟩ := hsent.inFlight
  have hstep := (step_countedFromReset_tick hw hk.symm).trans hquery
  have hrun := reaches_add (reaches_countedFromReset hw (by omega)) (reaches_step hstep (reaches_zero t))
  exact ⟨t, f, hk ▸ hrun, hstate, hlast, hout, hf⟩

end Sys2Proof.Machine
end

section
/-! The canonical form of the two buffers (20_memory.md R60): the drain stores at most a full receive buffer, a send
exactly a full transmit buffer, and nothing else writes a byte. -/

namespace Sys2Proof.Machine

/-! ## What writes a buffer -/

/-- Where neither buffer is written, both keep their form. -/
theorem State.BuffersWf.of_eq {s t : State} (hs : s.BuffersWf) (htx : t.tx = s.tx) (hrx : t.rx = s.rx) :
    t.BuffersWf :=
  ⟨htx ▸ hs.1, hrx ▸ hs.2⟩

/-- The drain stores no more bytes than the receive buffer holds (45_sequencer.md R239). -/
theorem State.drain_buffersWf {s : State} (hs : s.BuffersWf) : s.drain.BuffersWf := by
  obtain ⟨htx, hrx⟩ := hs
  have hfits : 0 + (s.rxFifo.take rxLen).length ≤ rxLen := by
    rw [Nat.zero_add]
    exact List.length_take_le rxLen s.rxFifo
  exact ⟨htx, Memory.wf_store rxLen _ s.rx 0 hfits hrx⟩

/-- A frame's own effects are on the follow-me registers (43_frames.md R189). -/
theorem FrameEffect.rx_eq {s u : State} {c : Cmd} (h : FrameEffect s c u) : u.rx = s.rx := by
  cases h <;> rfl

/-- A send stores a frame of the transmit buffer's length (45_sequencer.md R237). -/
theorem exec_transmit_buffersWf {i : Instr} (hi : Instr.isTransmit i) {s t : State} (hs : s.BuffersWf)
    (h : exec i s = .next t) : t.BuffersWf := by
  obtain ⟨c, p, u, hp, -, hu, he⟩ := exec_transmit hi s
  obtain ⟨-, h⟩ := whenAdmitted_next (he.symm.trans h)
  cases h
  obtain ⟨htx, hrx⟩ := hs
  have hfits : 0 + (encodeTx s.cfg c p).length ≤ txLen := by rw [encodeTx_length s.cfg c p hp]; rfl
  exact ⟨Memory.wf_store txLen _ s.tx 0 hfits htx, hu.rx_eq ▸ hrx⟩

/-! ## The sub-steps of `MS` -/

/-- `RECEIVE()` writes the buffers by its drain alone (R239-R244). -/
theorem State.receive_buffersWf {s t : State} (hs : s.BuffersWf) (h : s.receive = .next t) : t.BuffersWf := by
  obtain ⟨u, p, hr, rfl⟩ := State.receive_next h
  obtain ⟨_, hu⟩ := hr.frame
  exact (State.drain_buffersWf hs).of_eq (by rw [hu]; rfl) (by rw [hu])

/-- The response window (R233). -/
theorem State.window_buffersWf {s w : State} (hs : s.BuffersWf) (h : s.window = .next w) : w.BuffersWf := by
  rcases s.window_cases with ⟨-, hw⟩ | ⟨-, -, hw⟩ | ⟨-, -, hw⟩ <;> rw [hw] at h
  · cases h; exact hs
  · cases h; exact hs.of_eq rfl rfl
  · exact State.receive_buffersWf (s := { s with winCtr := 0, winArmed := false }) (hs.of_eq rfl rfl) h

/-- The follow-me scheduler (R234). -/
theorem State.schedule_buffersWf {s : State} (hs : s.BuffersWf) : s.schedule.BuffersWf := by
  obtain ⟨hframe, -⟩ := s.schedule_frame
  exact hs.of_eq (by rw [hframe]) (by rw [hframe])

/-- The tick counts, skips, or sends (R235-R238, R251). -/
theorem State.tick_buffersWf {s t : State} (hs : s.BuffersWf) (h : s.tick = .next t) : t.BuffersWf := by
  rcases s.tick_cases with ⟨-, ht⟩ | ⟨-, -, ht⟩ | ⟨_, _, -, -, -, ht⟩ | ⟨_, i, -, -, -, hi, ht⟩ <;> rw [ht] at h
  · cases h; exact hs.of_eq rfl rfl
  · cases h; exact hs.of_eq rfl rfl
  · cases h; exact hs.of_eq rfl rfl
  · exact exec_transmit_buffersWf hi (s := { s with tickCtr := 0 }) (hs.of_eq rfl rfl) h

/-- `MS` keeps the form, by its sub-steps (R231). -/
theorem exec_ms_buffersWf {s t : State} (hs : s.BuffersWf) (h : exec .ms s = .next t) : t.BuffersWf := by
  obtain ⟨-, w, hwin, htick⟩ := execMs_next h
  have htime : s.tickTime.BuffersWf := hs.of_eq rfl rfl
  exact State.tick_buffersWf (State.schedule_buffersWf (State.window_buffersWf htime hwin)) htick

/-! ## The step -/

/-- An event of the host or the sensor writes neither buffer. -/
theorem State.BuffersWf.of_hostEvent {s t : State} (hs : s.BuffersWf) (hex : ExchangeKept s t)
    (hk : HostEventKeeps s t) : t.BuffersWf :=
  hs.of_eq hex.tx hk.rx

/-- Settles O48: `MS` keeps the form by its sub-steps, a reset leaves empty buffers, and no other event writes one. -/
theorem stepKeepsTheBuffersCanonical : Obligations.StepKeepsTheBuffersCanonical := by
  intro s t hs h
  obtain ⟨i, hd, h⟩ := step_next h
  have hadvance : s.advance.BuffersWf := hs.of_eq rfl rfl
  rcases decodeTransaction_ok hd with rfl | rfl | ⟨req, rfl⟩ | ⟨v, rfl⟩ | ⟨x, rfl⟩ | ⟨bs, rfl⟩
  · exact exec_ms_buffersWf hadvance h
  · obtain ⟨-, rfl⟩ := exec_reset_next h
    exact ⟨rfl, rfl⟩
  · exact hadvance.of_hostEvent (exec_control_exchangeKept h) (exec_control_hostEventKeeps h)
  · exact hadvance.of_hostEvent (exec_staticPressure_exchangeKept h) (exec_staticPressure_hostEventKeeps h)
  · exact hadvance.of_hostEvent (exec_remoteTemp_exchangeKept h) (exec_remoteTemp_hostEventKeeps h)
  · obtain ⟨-, h⟩ := whenAdmitted_next h
    cases h
    exact hadvance.of_eq rfl rfl

end Sys2Proof.Machine
end

section
/-! The step and the input queue (10_state.md R38-R41; entry 5): what a waiting transaction decodes to is what runs, on
the state with that transaction taken. -/

namespace Sys2Proof.Machine

/-- The transaction that an instruction is encoded as decodes to it; no frame is a transaction (30_encoding.md R107). -/
theorem decodeTransaction_of_encode {cfg : Config} {i : Instr} {tr : Transaction}
    (h : encode cfg i = .transaction tr) : decodeTransaction cfg tr = .ok i := by
  cases i with
  | query | queryExt | set | fmInit | fmUpdate | fmStatic | rQuery | rQueryExt | rSet | rFollowMe | rUnknown => cases h
  | reset | ms | control | staticPressure | remoteTemp | rx => cases h; rfl

/-- With a transaction waiting, the step takes it from the queue and runs the instruction it decodes to. -/
theorem step_of_waiting {s : State} {i : Instr} {tr : Transaction} {rest : List Transaction}
    (h : s.inbox = tr :: rest) (hd : decodeTransaction s.cfg tr = .ok i) :
    step s = exec i { s with inbox := rest } := by
  have hfetch : s.fetch = tr := by rw [State.fetch, h]
  have hadvance : s.advance = { s with inbox := rest } := by rw [State.advance, h, List.tail_cons]
  rw [step, hfetch, hd, hadvance]

/-- Settles O19: a waiting transaction by what it decodes to, its temperature read through `TEMP_FMT`. -/
theorem stepRunsTheWaitingTransaction : Obligations.StepRunsTheWaitingTransaction :=
  ⟨fun _ _ _ _ h henc => step_of_waiting h (decodeTransaction_of_encode henc), fun _ h => step_of_noInput h,
    fun _ _ _ h => step_of_waiting h rfl, fun _ _ _ _ _ _ _ h => step_of_waiting h rfl⟩

end Sys2Proof.Machine
end

section
/-! A response with no command in flight (10_state.md R21, R22; 45_sequencer.md R242): the rule names no next state, and the
interpreter has no say in that. -/

namespace Sys2Proof.Machine

/-- With an empty slot and no command in flight R242 names no send state. -/
theorem State.afterSuccess_eq_none {s : State} (hlast : s.lastSent = none) (hpending : s.pending = none) :
    s.afterSuccess = none := by
  rw [State.afterSuccess, hlast, hpending]
  rfl

/-- Routing a response then faults, whatever its interpreter leaves (entry 10). -/
theorem State.route_without_command {s u : State} {i : Instr} (hw : s.cfg.wf = true) (hlast : s.lastSent = none)
    (hpending : s.pending = none) (hr : Routed s i u) : s.route u = .fault .noCommandInFlight := by
  have hset : s.lastSent ≠ some .set := by rw [hlast]; exact nofun
  rw [State.route, whenAdmitted_of_wf hw, if_neg hset, State.success_eq, hr.afterSuccess_eq,
    State.afterSuccess_eq_none hlast hpending]

/-- Settles O36: each of the five responses is routed. -/
theorem responseWithoutCommandFaults : Obligations.ResponseWithoutCommandFaults := by
  intro s code hdr q i hw hlast hpending hi
  have hset : s.lastSent ≠ some .set := by rw [hlast]; exact nofun
  rcases hi with rfl | rfl | rfl | rfl | rfl
  · exact State.route_without_command hw hlast hpending (.query hdr q hset)
  · exact State.route_without_command hw hlast hpending (.queryExt hdr q hset)
  · exact State.route_without_command hw hlast hpending (.set hdr q)
  · exact State.route_without_command hw hlast hpending (.followMe hdr q)
  · exact State.route_without_command hw hlast hpending (.unknown code hdr q)

end Sys2Proof.Machine
end
